-- ==== Sys2Proof/Word.lean ====
section
/-! DEFINITION. The widths of the block's registers, ports and fields (00_scope.md R6, R7). -/

namespace Sys2Proof

/-- `BYTE` of R6: a raw byte register, a value register, the CRC accumulator, a byte on the wire. -/
abbrev Byte := BitVec 8

/-- A sensor word register, or a 16-bit sensor command word (R23, R81). -/
abbrev Word16 := BitVec 16

/-- `CMDW` of R6: one command word; also the width of SN (R24). -/
abbrev Word32 := BitVec 32

/-- `SAW` of R6: a 7-bit slave address. -/
abbrev SlaveAddr := BitVec 7

/-- `HA` of R6: a host register port address. -/
abbrev HostAddr := BitVec 6

/-- The index of a raw byte register: every 4-bit value names one (R20). -/
abbrev BIndex := BitVec 4

/-- The index of a value register, V0 to V7 (R21). -/
abbrev VIndex := BitVec 3

end Sys2Proof
end

