-- ==== Sys2Proof/Syntax.lean ====
section
/-! DEFINITION. The 26 commands of NCB-1 (30_encoding.md R85), with the operands of their formats (R81, R82) in
the order of the assembler (R89). Every operand is the bit field the command word holds, unsigned and taken as it
stands (R84); a value the field holds and the command does not accept is the command's own ValidationError. -/

namespace Sys2Proof

/-- One command of NCB-1 with its operand fields. -/
inductive Instr where
  /-- NOP (45_system.md R220). -/
  | nop
  /-- CLRST (45_system.md R221). -/
  | clrst
  /-- XWR sa, ra, n (41_framer.md R115). -/
  | xwr (sa : BitVec 7) (ra : BitVec 8) (n : BitVec 5)
  /-- XRD sa, ra, n (41_framer.md R116). -/
  | xrd (sa : BitVec 7) (ra : BitVec 8) (n : BitVec 5)
  /-- XCMD sa, cw (41_framer.md R120). -/
  | xcmd (sa : BitVec 7) (cw : BitVec 16)
  /-- XRDRAW sa, n (41_framer.md R121). -/
  | xrdraw (sa : BitVec 7) (n : BitVec 5)
  /-- BCDDEC Vd, Bs (42_bcd.md R143). -/
  | bcddec (vr : BitVec 4) (br : BitVec 4)
  /-- BCDENC Bd, Vs (42_bcd.md R144). -/
  | bcdenc (br : BitVec 4) (vr : BitVec 4)
  /-- TIMEDEC Bb (43_field_codec.md R152). -/
  | timedec (br : BitVec 4)
  /-- TIMEENC Bb (43_field_codec.md R153). -/
  | timeenc (br : BitVec 4)
  /-- CLKDEC Bb (43_field_codec.md R154). -/
  | clkdec (br : BitVec 4)
  /-- CLKENC Bb (43_field_codec.md R155). -/
  | clkenc (br : BitVec 4)
  /-- DATEDEC Bb (43_field_codec.md R156). -/
  | datedec (br : BitVec 4)
  /-- DATEENC Bb (43_field_codec.md R157). -/
  | dateenc (br : BitVec 4)
  /-- AL1ENC Bb, mode (43_field_codec.md R163). -/
  | al1enc (br : BitVec 4) (mode : BitVec 8)
  /-- AL2ENC Bb, mode (43_field_codec.md R167). -/
  | al2enc (br : BitVec 4) (mode : BitVec 8)
  /-- ALENTEST Br, which (43_field_codec.md R171). -/
  | alentest (br : BitVec 4) (which : BitVec 8)
  /-- ALENABLE Br, which (43_field_codec.md R172). -/
  | alenable (br : BitVec 4) (which : BitVec 8)
  /-- ALDISABLE Br, which (43_field_codec.md R173). -/
  | aldisable (br : BitVec 4) (which : BitVec 8)
  /-- ALFIRED Br, which (43_field_codec.md R174). -/
  | alfired (br : BitVec 4) (which : BitVec 8)
  /-- CRCINIT (44_crc.md R193). -/
  | crcinit
  /-- CRCBYTE Bb (44_crc.md R194). -/
  | crcbyte (br : BitVec 4)
  /-- CRC8 Bb, n (44_crc.md R195). -/
  | crc8 (br : BitVec 4) (n : BitVec 8)
  /-- CRCVFY Bb, n (44_crc.md R196). -/
  | crcvfy (br : BitVec 4) (n : BitVec 8)
  /-- FRMPAIR Bb (44_crc.md R204). -/
  | frmpair (br : BitVec 4)
  /-- FRMSER Bb (44_crc.md R205). -/
  | frmser (br : BitVec 4)
deriving DecidableEq, Repr

end Sys2Proof
end

