-- ==== Sys2Proof/WellFormed.lean ====
section
/-! DEFINITION. Well-formedness. An `Instr` carries its own: each operand has exactly the width of its field (R81), so
no ill-formed one can be built. What can be ill formed is a line of assembler source, whose operands are numbers of
any size: `SourceLine.WellFormed` says which lines the assembler accepts (30_encoding.md R89). -/

namespace Sys2Proof

/-- The name of a command (30_encoding.md R85). -/
inductive Mnemonic where
  | nop | clrst | xwr | xrd | xcmd | xrdraw | bcddec | bcdenc | timedec | timeenc | clkdec | clkenc | datedec | dateenc
  | al1enc | al2enc | alentest | alenable | aldisable | alfired | crcinit | crcbyte | crc8 | crcvfy | frmpair | frmser
deriving DecidableEq, Repr

/-- The operand fields of a command word (30_encoding.md R81). -/
inductive Field where
  | sa | ra | cw | n | p | vr | br
deriving DecidableEq, Repr

/-- How many bits a field has (R81). -/
def Field.width : Field → Nat
  | .sa => 7
  | .ra => 8
  | .cw => 16
  | .n => 5
  | .p => 8
  | .vr => 4
  | .br => 4

/-- The operands of a command in the order of its assembler line (R89). -/
def Mnemonic.operands : Mnemonic → List Field
  | .nop | .clrst | .crcinit => []
  | .xwr | .xrd => [.sa, .ra, .n]
  | .xcmd => [.sa, .cw]
  | .xrdraw => [.sa, .n]
  | .bcddec => [.vr, .br]
  | .bcdenc => [.br, .vr]
  | .timedec | .timeenc | .clkdec | .clkenc | .datedec | .dateenc | .crcbyte | .frmpair | .frmser => [.br]
  | .al1enc | .al2enc | .alentest | .alenable | .aldisable | .alfired | .crc8 | .crcvfy => [.br, .p]

/-- An operand as the source writes it: a number, a B register or a V register (R89). -/
inductive Operand where
  | num (value : Nat)
  | bReg (index : Nat)
  | vReg (index : Nat)
deriving DecidableEq, Repr

/-- The number an operand stands for. -/
def Operand.value : Operand → Nat
  | .num n | .bReg n | .vReg n => n

/-- The operand is written as its field's kind asks: BR a B register, VR a V register, any other a number (R89). -/
def Operand.ofKind : Operand → Field → Bool
  | .bReg _, .br => true
  | .vReg _, .vr => true
  | .num _, .br | .num _, .vr => false
  | .num _, _ => true
  | _, _ => false

/-- The operand does not exceed its field: sa ≤ 127, ra ≤ 255, cw ≤ 0xFFFF, n ≤ 31, P ≤ 255, VR ≤ 15, BR ≤ 15 (R89). -/
def Operand.fits (o : Operand) (f : Field) : Bool :=
  o.ofKind f && decide (o.value < 2 ^ f.width)

/-- One line of assembler source: a mnemonic and its operands (R89). -/
structure SourceLine where
  mnemonic : Mnemonic
  operands : List Operand
deriving DecidableEq, Repr

/-- The operands agree with the fields one by one, none left over on either side. -/
def operandsFit : List Operand → List Field → Bool
  | [], [] => true
  | o :: os, f :: fs => o.fits f && operandsFit os fs
  | _, _ => false

/-- The assembler accepts the line: "An assembler refuses an operand that does not fit its field ... it does not refuse
a value the field holds but the command rejects" (R89). -/
def SourceLine.WellFormed (l : SourceLine) : Bool :=
  operandsFit l.operands l.mnemonic.operands

end Sys2Proof
end

