-- ==== Sys2Proof/Decode.lean ====
section
/-! DEFINITION. The decoder of a command word (30_encoding.md R80 to R88), the encoder, and the assembler's words (R89). -/

namespace Sys2Proof

/-- The seven formats of a command word (R82). -/
inductive Format where
  | N | X | C | XR | BV | B | BP
deriving DecidableEq, Repr

/-- The mask column of R82: a 1 at every opcode bit and every must-be-zero bit. -/
def Format.mask : Format → Word32
  | .N => 0xFFFFFFFF
  | .X => 0xFF8000E0
  | .C => 0xFF800000
  | .XR => 0xFF80FFE0
  | .BV => 0xFFFFF0F0
  | .B => 0xFFFFFFF0
  | .BP => 0xFFFF00F0

/-- The OP column of R85. -/
def Mnemonic.opcode : Mnemonic → Byte
  | .nop => 0x00
  | .clrst => 0x01
  | .xwr => 0x10
  | .xrd => 0x11
  | .xcmd => 0x12
  | .xrdraw => 0x13
  | .bcddec => 0x20
  | .bcdenc => 0x21
  | .timedec => 0x30
  | .timeenc => 0x31
  | .clkdec => 0x32
  | .clkenc => 0x33
  | .datedec => 0x34
  | .dateenc => 0x35
  | .al1enc => 0x36
  | .al2enc => 0x37
  | .alentest => 0x38
  | .alenable => 0x39
  | .aldisable => 0x3A
  | .alfired => 0x3B
  | .crcinit => 0x40
  | .crcbyte => 0x41
  | .crc8 => 0x42
  | .crcvfy => 0x43
  | .frmpair => 0x44
  | .frmser => 0x45

/-- The format column of R85. -/
def Mnemonic.format : Mnemonic → Format
  | .nop | .clrst | .crcinit => .N
  | .xwr | .xrd => .X
  | .xcmd => .C
  | .xrdraw => .XR
  | .bcddec | .bcdenc => .BV
  | .timedec | .timeenc | .clkdec | .clkenc | .datedec | .dateenc | .crcbyte | .frmpair | .frmser => .B
  | .al1enc | .al2enc | .alentest | .alenable | .aldisable | .alfired | .crc8 | .crcvfy => .BP

/-- The match column of R85: the opcode in bits 31:24, every other bit 0. -/
def Mnemonic.matchWord (m : Mnemonic) : Word32 := m.opcode ++ 0#24

/-- Every command, in the order of R85. -/
def Mnemonic.all : List Mnemonic :=
  [.nop, .clrst, .xwr, .xrd, .xcmd, .xrdraw, .bcddec, .bcdenc, .timedec, .timeenc, .clkdec, .clkenc, .datedec,
   .dateenc, .al1enc, .al2enc, .alentest, .alenable, .aldisable, .alfired, .crcinit, .crcbyte, .crc8, .crcvfy,
   .frmpair, .frmser]

/-! ## Fields (R84) -/

/-- `OP = w[31:24]`. -/
def opField (w : Word32) : Byte := w.extractLsb' 24 8

/-- `SA = w[22:16]`. -/
def saField (w : Word32) : SlaveAddr := w.extractLsb' 16 7

/-- `RA = w[15:8]`. -/
def raField (w : Word32) : Byte := w.extractLsb' 8 8

/-- `CW = w[15:0]`. -/
def cwField (w : Word32) : Word16 := w.extractLsb' 0 16

/-- `N = w[4:0]`. -/
def nField (w : Word32) : BitVec 5 := w.extractLsb' 0 5

/-- `P = w[15:8]`. -/
def pField (w : Word32) : Byte := w.extractLsb' 8 8

/-- `VR = w[11:8]`. -/
def vrField (w : Word32) : BitVec 4 := w.extractLsb' 8 4

/-- `BR = w[3:0]`. -/
def brField (w : Word32) : BIndex := w.extractLsb' 0 4

/-! ## Decoding (R86 to R88) -/

/-- Why a word is no command; either way it raises IllegalCommand (R86, R87, R234). -/
inductive DecodeError where
  /-- The OP is not one of R85. -/
  | unassignedOpcode
  /-- A must-be-zero bit of the OP's format is 1. -/
  | mustBeZeroSet
deriving DecidableEq, Repr

/-- The command with a given OP, if one is assigned (R85). -/
def mnemonicOf (op : Byte) : Option Mnemonic := Mnemonic.all.find? fun m => m.opcode == op

/-- The command `m` with the operand fields of `w` (R84). -/
def operandsOf (m : Mnemonic) (w : Word32) : Instr :=
  match m with
  | .nop => .nop
  | .clrst => .clrst
  | .xwr => .xwr (saField w) (raField w) (nField w)
  | .xrd => .xrd (saField w) (raField w) (nField w)
  | .xcmd => .xcmd (saField w) (cwField w)
  | .xrdraw => .xrdraw (saField w) (nField w)
  | .bcddec => .bcddec (vrField w) (brField w)
  | .bcdenc => .bcdenc (brField w) (vrField w)
  | .timedec => .timedec (brField w)
  | .timeenc => .timeenc (brField w)
  | .clkdec => .clkdec (brField w)
  | .clkenc => .clkenc (brField w)
  | .datedec => .datedec (brField w)
  | .dateenc => .dateenc (brField w)
  | .al1enc => .al1enc (brField w) (pField w)
  | .al2enc => .al2enc (brField w) (pField w)
  | .alentest => .alentest (brField w) (pField w)
  | .alenable => .alenable (brField w) (pField w)
  | .aldisable => .aldisable (brField w) (pField w)
  | .alfired => .alfired (brField w) (pField w)
  | .crcinit => .crcinit
  | .crcbyte => .crcbyte (brField w)
  | .crc8 => .crc8 (brField w) (pField w)
  | .crcvfy => .crcvfy (brField w) (pField w)
  | .frmpair => .frmpair (brField w)
  | .frmser => .frmser (brField w)

/-- The decoder: the row with the word's OP, legal iff the word under the row's mask is the row's match (R86, R88). -/
def decode (w : Word32) : Except DecodeError Instr :=
  match mnemonicOf (opField w) with
  | none => .error .unassignedOpcode
  | some m => if w &&& m.format.mask = m.matchWord then .ok (operandsOf m w) else .error .mustBeZeroSet

/-! ## Encoding: the patterns of R82, bit 31 first -/

/-- Format N: `oooooooo000000000000000000000000`. -/
def wordN (m : Mnemonic) : Word32 := m.opcode ++ 0#24

/-- Format X: `oooooooo0sssssssrrrrrrrr000nnnnn`. -/
def wordX (m : Mnemonic) (sa : SlaveAddr) (ra : Byte) (n : BitVec 5) : Word32 := m.opcode ++ 0#1 ++ sa ++ ra ++ 0#3 ++ n

/-- Format C: `oooooooo0ssssssscccccccccccccccc`. -/
def wordC (m : Mnemonic) (sa : SlaveAddr) (cw : Word16) : Word32 := m.opcode ++ 0#1 ++ sa ++ cw

/-- Format XR: `oooooooo0sssssss00000000000nnnnn`. -/
def wordXR (m : Mnemonic) (sa : SlaveAddr) (n : BitVec 5) : Word32 := m.opcode ++ 0#1 ++ sa ++ 0#11 ++ n

/-- Format BV: `oooooooo000000000000vvvv0000bbbb`. -/
def wordBV (m : Mnemonic) (vr : BitVec 4) (br : BIndex) : Word32 := m.opcode ++ 0#12 ++ vr ++ 0#4 ++ br

/-- Format B: `oooooooo00000000000000000000bbbb`. -/
def wordB (m : Mnemonic) (br : BIndex) : Word32 := m.opcode ++ 0#20 ++ br

/-- Format BP: `oooooooo00000000pppppppp0000bbbb`. -/
def wordBP (m : Mnemonic) (p : Byte) (br : BIndex) : Word32 := m.opcode ++ 0#8 ++ p ++ 0#4 ++ br

/-- The command word of an instruction (R82, R85). -/
def encode (i : Instr) : Word32 :=
  match i with
  | .nop => wordN .nop
  | .clrst => wordN .clrst
  | .xwr sa ra n => wordX .xwr sa ra n
  | .xrd sa ra n => wordX .xrd sa ra n
  | .xcmd sa cw => wordC .xcmd sa cw
  | .xrdraw sa n => wordXR .xrdraw sa n
  | .bcddec vr br => wordBV .bcddec vr br
  | .bcdenc br vr => wordBV .bcdenc vr br
  | .timedec br => wordB .timedec br
  | .timeenc br => wordB .timeenc br
  | .clkdec br => wordB .clkdec br
  | .clkenc br => wordB .clkenc br
  | .datedec br => wordB .datedec br
  | .dateenc br => wordB .dateenc br
  | .al1enc br mode => wordBP .al1enc mode br
  | .al2enc br mode => wordBP .al2enc mode br
  | .alentest br which => wordBP .alentest which br
  | .alenable br which => wordBP .alenable which br
  | .aldisable br which => wordBP .aldisable which br
  | .alfired br which => wordBP .alfired which br
  | .crcinit => wordN .crcinit
  | .crcbyte br => wordB .crcbyte br
  | .crc8 br n => wordBP .crc8 n br
  | .crcvfy br n => wordBP .crcvfy n br
  | .frmpair br => wordB .frmpair br
  | .frmser br => wordB .frmser br

/-- The command an instruction is. -/
def Instr.mnemonic : Instr → Mnemonic
  | .nop => .nop
  | .clrst => .clrst
  | .xwr _ _ _ => .xwr
  | .xrd _ _ _ => .xrd
  | .xcmd _ _ => .xcmd
  | .xrdraw _ _ => .xrdraw
  | .bcddec _ _ => .bcddec
  | .bcdenc _ _ => .bcdenc
  | .timedec _ => .timedec
  | .timeenc _ => .timeenc
  | .clkdec _ => .clkdec
  | .clkenc _ => .clkenc
  | .datedec _ => .datedec
  | .dateenc _ => .dateenc
  | .al1enc _ _ => .al1enc
  | .al2enc _ _ => .al2enc
  | .alentest _ _ => .alentest
  | .alenable _ _ => .alenable
  | .aldisable _ _ => .aldisable
  | .alfired _ _ => .alfired
  | .crcinit => .crcinit
  | .crcbyte _ => .crcbyte
  | .crc8 _ _ => .crc8
  | .crcvfy _ _ => .crcvfy
  | .frmpair _ => .frmpair
  | .frmser _ => .frmser

/-! ## The assembler's words (R81, R89) -/

/-- The lowest bit of a field in the command word (R81). -/
def Field.lsb : Field → Nat
  | .sa => 16
  | .ra => 8
  | .cw => 0
  | .n => 0
  | .p => 8
  | .vr => 8
  | .br => 0

/-- The operands' bits, each at its field's place. -/
def placeOperands : List Operand → List Field → Word32
  | o :: os, f :: fs => (BitVec.ofNat 32 o.value <<< f.lsb) ||| placeOperands os fs
  | _, _ => 0

/-- The word of an accepted source line; none where the assembler refuses the line (R89). -/
def assemble (l : SourceLine) : Option Word32 :=
  if l.WellFormed then some (l.mnemonic.matchWord ||| placeOperands l.operands l.mnemonic.operands) else none

/-- The source line of an instruction (R89). -/
def Instr.toSource (i : Instr) : SourceLine :=
  { mnemonic := i.mnemonic
    operands :=
      match i with
      | .nop | .clrst | .crcinit => []
      | .xwr sa ra n | .xrd sa ra n => [.num sa.toNat, .num ra.toNat, .num n.toNat]
      | .xcmd sa cw => [.num sa.toNat, .num cw.toNat]
      | .xrdraw sa n => [.num sa.toNat, .num n.toNat]
      | .bcddec vr br => [.vReg vr.toNat, .bReg br.toNat]
      | .bcdenc br vr => [.bReg br.toNat, .vReg vr.toNat]
      | .timedec br | .timeenc br | .clkdec br | .clkenc br | .datedec br | .dateenc br | .crcbyte br | .frmpair br
      | .frmser br => [.bReg br.toNat]
      | .al1enc br p | .al2enc br p | .alentest br p | .alenable br p | .aldisable br p | .alfired br p | .crc8 br p
      | .crcvfy br p => [.bReg br.toNat, .num p.toNat] }

/-- The instruction the decoder reads from a row of the opcode table whose bits are `w`: `nbits` of them, any bit above
them 0. A command word is delivered whole (20_memory.md R55), so there is no byte order to apply. -/
def decodeTableWord (nbits w : Nat) : Option Instr :=
  match decode (BitVec.ofNat 32 (w % 2 ^ nbits)) with
  | .ok i => some i
  | .error _ => none

end Sys2Proof
end

