-- ==== Sys2Proof/Config.lean ====
section
/-! DEFINITION. The fixed parameters of NCB-1 (00_scope.md R6: "A model may take none of them as an argument") and the
one free value: what the Transport answers (20_memory.md R58). -/

namespace Sys2Proof

/-- `NB` of R6: the number of raw byte registers, also the longest read phase (`MAXRD`). -/
abbrev Config.numB : Nat := 16

/-- `NV` of R6: the number of value registers. -/
abbrev Config.numV : Nat := 8

/-- `MAXRD` of R6. -/
abbrev Config.maxRead : Nat := 16

/-- `MAXWR` of R6: one register address byte and 15 payload bytes. -/
abbrev Config.maxWrite : Nat := 16

/-- The CRC initial value of R6. -/
abbrev Config.crcInit : Byte := 0xFF

/-- The CRC polynomial 0x131 of R6 without its x^8 term. -/
abbrev Config.crcPoly : Byte := 0x31

/-- What the Transport answers to one transaction: a bus error, or as many bytes as the read phase asks for, each of
any value (20_memory.md R58). `ok` holds the longest read phase's worth of bytes, and a transaction with a shorter
read phase takes the first of them, so that exactly rlen bytes are returned whatever rlen is. -/
inductive Draw where
  /-- The transfer did not complete as requested (R56). -/
  | busErr
  /-- The transfer completed: the bytes of the read phase, in order. -/
  | ok (bytes : Vector Byte 16)
deriving DecidableEq, Repr, Inhabited

/-- DESIGN CHOICE (log 2). The Transport's answer to the n-th transaction where State's list of answers has run out: a
free value, nothing constrains it (R58: "a draw under no law except the contract"). -/
opaque Config.transport : Nat → Draw

end Sys2Proof
end

