-- ==== Sys2Proof/Machine/State.lean ====
section
/-! DEFINITION. The state of the block (10_state.md R20 to R36) as plain data, the outside world's inputs to it, and
the state after reset (70_reset_and_hazards.md R261). -/

namespace Sys2Proof.Machine

/-- The STATUS register's byte (R26, R27); its fields are read and written in Machine/Flags.lean. -/
abbrev Status := Byte

/-- The result of one `Transfer` (00_scope.md R11). -/
inductive TransferResult where
  /-- The Transport reports a bus error. -/
  | busErr
  /-- The Transport reports success and the read phase's bytes. -/
  | ok (rd : List Byte)
deriving DecidableEq, Repr

/-- One transaction event `{sa, wr, rlen, result}` (20_memory.md R60). `wr` is none where there is no write phase. -/
structure Event where
  sa : SlaveAddr
  wr : Option (List Byte)
  rlen : Nat
  result : TransferResult
deriving DecidableEq, Repr

/-- What the host may do to the block between two commands (R16, R50 to R55, R260). -/
inductive HostOp where
  /-- Issue a command word on the command port (R55). -/
  | command (w : Word32)
  /-- Read one byte on the host register port (R51). -/
  | read (a : HostAddr)
  /-- Write one byte on the host register port (R52). -/
  | write (a : HostAddr) (v : Byte)
  /-- Power up, or assert the reset input (R260). -/
  | reset
deriving DecidableEq, Repr

/-- The block's registers and its event history, which are the whole of its state (R36, R60), and beside them four
fields of the model's own: `port`, `draws`, `drawCount` and `hostReads` (log 1, log 2, log 4). -/
structure State where
  /-- Raw byte registers B0 to B15 (R20). -/
  B : Vector Byte 16
  /-- Value registers V0 to V7 (R21). -/
  V : Vector Byte 8
  /-- Sensor word register W0 (R23). -/
  W0 : Word16
  /-- Sensor word register W1 (R23). -/
  W1 : Word16
  /-- Serial number register (R24). -/
  SN : Word32
  /-- CRC accumulator (R25). -/
  CRC : Byte
  /-- STATUS register (R26). -/
  ST : Status
  /-- Transaction event history, oldest first (R60). -/
  events : List Event
  /-- MODEL's own, DESIGN CHOICE (log 1): the host's operations not yet served, in arrival order (R55, R65). -/
  port : List HostOp
  /-- MODEL's own, DESIGN CHOICE (log 2): the Transport's answers to the coming transactions, in order (R58). -/
  draws : List Draw
  /-- MODEL's own, DESIGN CHOICE (log 2): how many answers have been drawn. -/
  drawCount : Nat
  /-- MODEL's own, DESIGN CHOICE (log 4): the host port's answers to reads, oldest first (R51). -/
  hostReads : List (HostAddr × Byte)
deriving DecidableEq, Repr

/-- Why the block stops with a fault. It has no constructor: no rule of the spec stops the block; every error is a code in
STATUS and a next state (60_exceptions.md R238; log 9). So no one raises a fault, which is safe. -/
inductive Fault where
deriving DecidableEq, Repr

/-- Why an instruction has no meaning. -/
inductive Refusal where
  /-- An arm of exec whose instruction is not modelled yet. Raised by no arm now that every instruction has its meaning;
  safe, since it only stops. -/
  | notModelled (mnemonic : String)
deriving DecidableEq, Repr

/-- The state after reset (R261), nothing issued by the host and no answer of the Transport listed (log 1, log 2, log 4). -/
def State.reset : State where
  B := Vector.replicate 16 0x00
  V := Vector.replicate 8 0x00
  W0 := 0x0000
  W1 := 0x0000
  SN := 0x00000000
  CRC := 0xFF
  ST := 0x00
  events := []
  port := []
  draws := []
  drawCount := 0
  hostReads := []

end Sys2Proof.Machine
end

