-- ==== Sys2Proof/Machine/Flags.lean ====
section
/-! DEFINITION. The fields of STATUS (10_state.md R27), the error codes (60_exceptions.md R230), and the malformed-BCD
tests behind ST.MAL (42_bcd.md R141, 43_field_codec.md R150). -/

namespace Sys2Proof.Machine

/-! ## STATUS fields (R27) -/

/-- ST.ERR, bits 2:0. -/
def Status.err (st : Status) : BitVec 3 := st.extractLsb' 0 3

/-- ST.MAL, bit 3. -/
def Status.mal (st : Status) : Bool := st.getLsbD 3

/-- ST.FLAG, bit 4. -/
def Status.flag (st : Status) : Bool := st.getLsbD 4

/-- ST.FV0, bit 5. -/
def Status.fv0 (st : Status) : Bool := st.getLsbD 5

/-- ST.FV1, bit 6. -/
def Status.fv1 (st : Status) : Bool := st.getLsbD 6

/-- ST.STK, bit 7. -/
def Status.stk (st : Status) : Bool := st.getLsbD 7

/-- STATUS with ERR replaced, every other bit kept. -/
def Status.setErr (st : Status) (e : BitVec 3) : Status := st.extractLsb' 3 5 ++ e

/-- STATUS with the bits of `mask` all set or all cleared, every other bit kept. -/
def Status.setMask (st : Status) (mask : Byte) (b : Bool) : Status := if b then st ||| mask else st &&& ~~~mask

/-- STATUS with MAL replaced. -/
def Status.setMal (st : Status) (b : Bool) : Status := st.setMask 0x08 b

/-- STATUS with FLAG replaced. -/
def Status.setFlag (st : Status) (b : Bool) : Status := st.setMask 0x10 b

/-- STATUS with FV0 replaced. -/
def Status.setFv0 (st : Status) (b : Bool) : Status := st.setMask 0x20 b

/-- STATUS with FV1 replaced. -/
def Status.setFv1 (st : Status) (b : Bool) : Status := st.setMask 0x40 b

/-- STATUS with STK replaced. -/
def Status.setStk (st : Status) (b : Bool) : Status := st.setMask 0x80 b

/-! ## Error classes (R230) -/

/-- The four error classes. -/
inductive ErrorClass where
  | busError
  | checksumError
  | validationError
  | illegalCommand
deriving DecidableEq, Repr

/-- The code of an error class in ST.ERR (R28, R230). -/
def ErrorClass.code : ErrorClass → BitVec 3
  | .busError => 1
  | .checksumError => 2
  | .validationError => 3
  | .illegalCommand => 4

/-! ## Malformed BCD -/

/-- `mal(x)` of R141: a nibble is greater than 9. -/
def mal (x : Byte) : Bool := decide (x.toNat / 16 > 9) || decide (x.toNat % 16 > 9)

/-- `malHour(b)` of R150: the digits of the path the hour byte takes. -/
def malHour (b : Byte) : Bool := if b.getLsbD 6 then mal (b &&& 0x1F) else mal (b &&& 0x3F)

end Sys2Proof.Machine
end

