-- ==== Sys2Proof/Machine/Operands.lean ====
section
/-! DEFINITION. The functions the commands compute with (00_scope.md R13): BCD (42_bcd.md R140, R142), the hour fold
(43_field_codec.md R150), field ranges (R158), alarm modes and bytes (R161 to R167), the alarm bits (R170), CRC-8
(44_crc.md R190, R191), sensor words (R201), and the operand checks (60_exceptions.md R233). -/

namespace Sys2Proof.Machine

/-! ## BCD -/

/-- `dec(x) = x[7:4] * 10 + x[3:0]` (R140), exact: at most 165. -/
def dec (x : Byte) : Byte := BitVec.ofNat 8 (x.toNat / 16 * 10 + x.toNat % 16)

/-- `enc(v)`: tens digit in the high nibble, units in the low (R142). Applied only to values up to 99. -/
def enc (v : Byte) : Byte := BitVec.ofNat 8 (v.toNat / 10 * 16 + v.toNat % 10)

/-- `enc` applies: the value is 0 to 99 (R142). -/
def bcdOk (v : Byte) : Bool := decide (v.toNat ≤ 99)

/-- `decHour(b)`: the 12/24-hour fold (R150). Not corrected at noon and midnight (R160). -/
def decHour (b : Byte) : Byte :=
  if b.getLsbD 6 then dec (b &&& 0x1F) + (if b.getLsbD 5 then 12 else 0) else dec (b &&& 0x3F)

/-! ## Field ranges of the encode commands (R158) -/

/-- A second is 0 to 59. -/
def secondOk (v : Byte) : Bool := decide (v.toNat ≤ 59)

/-- A minute is 0 to 59. -/
def minuteOk (v : Byte) : Bool := decide (v.toNat ≤ 59)

/-- An hour is 0 to 23. -/
def hourOk (v : Byte) : Bool := decide (v.toNat ≤ 23)

/-- A weekday is 1 to 7. -/
def weekdayOk (v : Byte) : Bool := decide (1 ≤ v.toNat) && decide (v.toNat ≤ 7)

/-- A date is 1 to 31, whatever the month. -/
def dateOk (v : Byte) : Bool := decide (1 ≤ v.toNat) && decide (v.toNat ≤ 31)

/-- A month is 1 to 12. -/
def monthOk (v : Byte) : Bool := decide (1 ≤ v.toNat) && decide (v.toNat ≤ 12)

/-- A year is 0 to 99. -/
def yearOk (v : Byte) : Bool := decide (v.toNat ≤ 99)

/-! ## V registers of the fields (10_state.md R22) -/

/-- V0 holds the second. -/
abbrev vSecond : VIndex := 0
/-- V1 holds the minute. -/
abbrev vMinute : VIndex := 1
/-- V2 holds the hour. -/
abbrev vHour : VIndex := 2
/-- V3 holds the weekday. -/
abbrev vWeekday : VIndex := 3
/-- V4 holds the date. -/
abbrev vDate : VIndex := 4
/-- V5 holds the month. -/
abbrev vMonth : VIndex := 5
/-- V6 holds the year. -/
abbrev vYear : VIndex := 6

/-! ## Alarm frames -/

/-- The six alarm-1 mode codes (R162). -/
def alarm1Modes : List Byte := [0x0F, 0x0E, 0x0C, 0x08, 0x00, 0x10]

/-- The five alarm-2 mode codes (R166). -/
def alarm2Modes : List Byte := [0x07, 0x06, 0x04, 0x00, 0x10]

/-- Bit 4 of the mode selects weekday repeat (R162, R166). -/
def weekdayMode (m : Byte) : Bool := m.getLsbD 4

/-- Byte k of an alarm frame: the field in BCD and mode bit k in bit 7 (R161; 90_conflicts.md C2). -/
def alarmByte (field m : Byte) (k : Nat) : Byte := enc field ||| ((m &&& (1 <<< k)) <<< (7 - k))

/-- The last byte of an alarm frame: weekday with the day-select bit 6, or date without it (R161, R163, R167). -/
def alarmDayByte (weekday date m : Byte) (k : Nat) : Byte :=
  if weekdayMode m then alarmByte weekday m k ||| 0x40 else alarmByte date m k

/-- The day field the mode encodes is in range; the other one is not checked (R163, R167). -/
def alarmDayOk (weekday date m : Byte) : Bool := if weekdayMode m then weekdayOk weekday else dateOk date

/-- `alarmSel(which)`: bit 0 for 1, bit 1 for every other value (R170). -/
def alarmSel (which : Byte) : Byte := if which = 1 then 0x01 else 0x02

/-! ## CRC-8 -/

/-- One round of `crcStep`: shift left, and subtract the polynomial when a 1 falls out (R190). -/
def crcShift (c : Byte) : Byte := if c.getLsbD 7 then (c <<< 1) ^^^ Config.crcPoly else c <<< 1

/-- `crcStep(c, x)`: the data byte enters whole, then eight rounds (R190). -/
def crcStep (c x : Byte) : Byte := Nat.repeat crcShift 8 (c ^^^ x)

/-- `crc8` of a byte list: `crcStep` folded from 0xFF, no final XOR (R191). -/
def crc8 (xs : List Byte) : Byte := xs.foldl crcStep Config.crcInit

/-- `verify(bytes, e)` (R191). -/
def verify (xs : List Byte) (e : Byte) : Bool := crc8 xs == e

/-! ## Sensor words -/

/-- A data word: the first byte is the most significant (R201). -/
def wordOf (hi lo : Byte) : Word16 := hi ++ lo

/-- The serial number `(halfA << 16) | halfB` (R201). -/
def serialOf (halfA halfB : Word16) : Word32 := halfA ++ halfB

/-! ## Operand checks (R233) -/

/-- A frame of `len` bytes from B[br] ends at B15 or before (D21). -/
def frameFits (br : BIndex) (len : Nat) : Bool := decide (br.toNat + len ≤ 16)

/-- XWR accepts N from 0 to 15 (R115). -/
def writeLengthOk (n : BitVec 5) : Bool := decide (n.toNat ≤ 15)

/-- XRD and XRDRAW accept N from 1 to 16 (R116, R121). -/
def readLengthOk (n : BitVec 5) : Bool := decide (1 ≤ n.toNat) && decide (n.toNat ≤ 16)

/-- BCDDEC and BCDENC accept VR from 0 to 7 (R143, R144). -/
def valueIndexOk (vr : BitVec 4) : Bool := decide (vr.toNat ≤ 7)

/-- The V register a legal VR names. -/
def valueIndex (vr : BitVec 4) : VIndex := vr.setWidth 3

end Sys2Proof.Machine
end

