-- ==== Sys2Proof/Machine/Ops.lean ====
section
/-! DEFINITION. The named operations over the registers, the recording of an error (the block's counterpart of taking an
exception: 00_scope.md R12, 60_exceptions.md R235, R238), the Transfer (R11) and the host register port (R50 to R53). -/

namespace Sys2Proof.Machine

/-! ## Registers -/

/-- `B[i]` (R9). -/
def State.getB (s : State) (i : BIndex) : Byte := s.B[i.toNat]'i.isLt

/-- `B[i] <- v` (R9). -/
def State.setB (s : State) (i : BIndex) (v : Byte) : State := { s with B := s.B.set i.toNat v i.isLt }

/-- `V[i]` (R9). -/
def State.getV (s : State) (i : VIndex) : Byte := s.V[i.toNat]'i.isLt

/-- `V[i] <- v` (R9). -/
def State.setV (s : State) (i : VIndex) (v : Byte) : State := { s with V := s.V.set i.toNat v i.isLt }

/-- `W0 <- v`. -/
def State.setW0 (s : State) (v : Word16) : State := { s with W0 := v }

/-- `W1 <- v`. -/
def State.setW1 (s : State) (v : Word16) : State := { s with W1 := v }

/-- `SN <- v`. -/
def State.setSN (s : State) (v : Word32) : State := { s with SN := v }

/-- `CRC <- v`. -/
def State.setCRC (s : State) (v : Byte) : State := { s with CRC := v }

/-- STATUS replaced whole. -/
def State.setST (s : State) (v : Status) : State := { s with ST := v }

/-- `B[a..a+n-1]` as a byte list, empty when n = 0 (R9). A caller has checked that the run ends at B15 or before (log 11). -/
def State.bytesFrom (s : State) (a : BIndex) : Nat → List Byte
  | 0 => []
  | n + 1 => s.getB a :: State.bytesFrom s (a + 1) n

/-- The bytes written to `B[a]`, `B[a+1]`, …. A caller has checked that the run ends at B15 or before (log 11). -/
def State.writeBytes (s : State) (a : BIndex) : List Byte → State
  | [] => s
  | x :: xs => State.writeBytes (s.setB a x) (a + 1) xs

/-! ## STATUS fields of the state -/

/-- `ST.MAL <- b`. -/
def State.setMal (s : State) (b : Bool) : State := s.setST (s.ST.setMal b)

/-- `ST.FLAG <- b`. -/
def State.setFlag (s : State) (b : Bool) : State := s.setST (s.ST.setFlag b)

/-- `ST.FV0 <- b0; ST.FV1 <- b1`. -/
def State.setFrameValid (s : State) (b0 b1 : Bool) : State := s.setST ((s.ST.setFv0 b0).setFv1 b1)

/-- `ST.STK <- b`. -/
def State.setStk (s : State) (b : Bool) : State := s.setST (s.ST.setStk b)

/-! ## The execution cycle (30_encoding.md R86) and errors (R12, R235) -/

/-- The prologue of every command: ERR and MAL cleared (R86). -/
def State.prologue (s : State) : State := s.setST ((s.ST.setErr 0).setMal false)

/-- `raise E`: the code in ERR, STK set, and the command ends (R12, R235). -/
def State.raise (s : State) (e : ErrorClass) : State := s.setST ((s.ST.setErr e.code).setStk true)

/-- One command: the prologue, then the command's own rule (R86). No command stops the block (R238). -/
def command (body : State → State) (s : State) : Host.Outcome State Fault Refusal := .next (body s.prologue)

/-- The rule of a command that checks its operands first: ValidationError, nothing else written, where they fail (R12, R233). -/
def State.checked (s : State) (ok : Bool) (body : State) : State := if ok then body else s.raise .validationError

/-- The end of a command on sensor frames: ChecksumError where a frame fails; what stands in `s`, written before the
raise, stays (R12; 44_crc.md R204, R205). -/
def State.acceptedOr (s : State) (ok : Bool) (body : State) : State := if ok then body else s.raise .checksumError

/-- What a word that is no command does: the prologue, then IllegalCommand (R86, R87). -/
def State.illegal (s : State) : State := s.prologue.raise .illegalCommand

/-! ## Transfer (R11, R56 to R60) -/

/-- The Transport's answer to the coming transaction: the first of the listed ones, or a free value past their end
(R58, log 2). -/
def State.nextDraw (s : State) : Draw :=
  match s.draws with
  | d :: _ => d
  | [] => Config.transport s.drawCount

/-- The answer to a transaction whose read phase asks for `rlen` bytes: `BusErr`, or exactly `rlen` bytes (R58). -/
def answerFor (d : Draw) (rlen : Nat) : TransferResult :=
  match d with
  | .busErr => .busErr
  | .ok bytes => .ok (bytes.toList.take rlen)

/-- The result `Transfer(sa, wr, rlen)` has in this state (R11). -/
def State.transferResult (s : State) (rlen : Nat) : TransferResult := answerFor s.nextDraw rlen

/-- The state after `Transfer(sa, wr, rlen)`: one event recorded, whatever the result (R60), and one answer used up. -/
def State.transferred (s : State) (sa : SlaveAddr) (wr : Option (List Byte)) (rlen : Nat) : State :=
  { s with
    events := s.events ++ [{ sa := sa, wr := wr, rlen := rlen, result := s.transferResult rlen }]
    draws := s.draws.tail
    drawCount := s.drawCount + 1 }

/-- A framer command's transaction: exactly one `Transfer`; on success the read bytes go to B0 upward, on `BusErr` the
command raises BusError and writes no B register (41_framer.md R110, R112). -/
def State.transact (s : State) (sa : SlaveAddr) (wr : Option (List Byte)) (rlen : Nat) : State :=
  match s.transferResult rlen with
  | .busErr => (s.transferred sa wr rlen).raise .busError
  | .ok rd => (s.transferred sa wr rlen).writeBytes 0 rd

/-! ## Host register port (20_memory.md R50 to R53) -/

/-- `MemRead(a, 1)`: the map of R50, multi-byte registers most significant byte first (R53), 0x00 where reserved (R51). -/
def State.hostRead (s : State) (a : HostAddr) : Byte :=
  if a.toNat < 0x10 then s.getB (a.setWidth 4)
  else if a.toNat < 0x18 then s.getV (a.setWidth 3)
  else if a = 0x18 then s.W0.extractLsb' 8 8
  else if a = 0x19 then s.W0.extractLsb' 0 8
  else if a = 0x1A then s.W1.extractLsb' 8 8
  else if a = 0x1B then s.W1.extractLsb' 0 8
  else if a = 0x1C then s.SN.extractLsb' 24 8
  else if a = 0x1D then s.SN.extractLsb' 16 8
  else if a = 0x1E then s.SN.extractLsb' 8 8
  else if a = 0x1F then s.SN.extractLsb' 0 8
  else if a = 0x20 then s.CRC
  else if a = 0x21 then s.ST
  else 0x00

/-- `MemWrite(a, 1, v)`: B, V and CRC are written, a read-only or reserved address changes nothing (R52). -/
def State.hostWrite (s : State) (a : HostAddr) (v : Byte) : State :=
  if a.toNat < 0x10 then s.setB (a.setWidth 4) v
  else if a.toNat < 0x18 then s.setV (a.setWidth 3) v
  else if a = 0x20 then s.setCRC v
  else s

/-- Reset (70_reset_and_hazards.md R260 to R263): every register and the event history at the value of `State.reset`;
what is outside the block stays (the host's operations, the Transport's answers, the answers already read; log 5). -/
def State.resetBlock (s : State) : State :=
  { State.reset with port := s.port, draws := s.draws, drawCount := s.drawCount, hostReads := s.hostReads }

end Sys2Proof.Machine
end

