-- ==== Sys2Proof/Machine/Bcd.lean ====
section
/-! DEFINITION. The BCD commands (42_bcd.md R143, R144). -/

namespace Sys2Proof.Machine

/-- BCDDEC: one byte decoded, MAL set where a nibble exceeds 9 (R143). -/
def execBcddec (vr : BitVec 4) (br : BitVec 4) (s : State) : Host.Outcome State Fault Refusal :=
  command (fun s => s.checked (valueIndexOk vr) ((s.setV (valueIndex vr) (dec (s.getB br))).setMal (mal (s.getB br)))) s

/-- BCDENC: one value up to 99 encoded (R144). -/
def execBcdenc (br : BitVec 4) (vr : BitVec 4) (s : State) : Host.Outcome State Fault Refusal :=
  command (fun s =>
    s.checked (valueIndexOk vr && bcdOk (s.getV (valueIndex vr)))
      (s.setB br (enc (s.getV (valueIndex vr))))) s

end Sys2Proof.Machine
end

