-- ==== Sys2Proof/Machine/CrcFrames.lean ====
section
/-! DEFINITION. The CRC register commands and the sensor frame commands (44_crc.md R193 to R205). -/

namespace Sys2Proof.Machine

/-- CRCINIT: the initial value into CRC (R193). -/
def execCrcinit (s : State) : Host.Outcome State Fault Refusal := command (fun s => s.setCRC Config.crcInit) s

/-- CRCBYTE: one byte folded into CRC (R194). -/
def execCrcbyte (br : BitVec 4) (s : State) : Host.Outcome State Fault Refusal :=
  command (fun s => s.setCRC (crcStep s.CRC (s.getB br))) s

/-- CRC8: the CRC of n bytes into CRC (R195). -/
def execCrc8 (br : BitVec 4) (n : BitVec 8) (s : State) : Host.Outcome State Fault Refusal :=
  command (fun s => s.checked (frameFits br n.toNat) (s.setCRC (crc8 (s.bytesFrom br n.toNat)))) s

/-- CRCVFY: the CRC of n bytes into CRC, and into FLAG whether the byte after them equals it (R196). -/
def execCrcvfy (br : BitVec 4) (n : BitVec 8) (s : State) : Host.Outcome State Fault Refusal :=
  command (fun s =>
    s.checked (frameFits br (n.toNat + 1))
      ((s.setCRC (crc8 (s.bytesFrom br n.toNat))).setFlag
        (verify (s.bytesFrom br n.toNat) (s.getB (br + BitVec.ofNat 4 n.toNat))))) s

/-- The frame `hi, lo, c` at B[b] is accepted: its CRC byte is the CRC of its data bytes (R200). -/
def State.frameOk (s : State) (b : BIndex) : Bool := verify [s.getB b, s.getB (b + 1)] (s.getB (b + 2))

/-- The data word of the frame at B[b] (R201). -/
def State.frameWord (s : State) (b : BIndex) : Word16 := wordOf (s.getB b) (s.getB (b + 1))

/-- W0 and W1 each updated by its own frame where that frame passes (R204). -/
def State.updatePair (s : State) (b : BIndex) : State :=
  let s0 := if s.frameOk b then s.setW0 (s.frameWord b) else s
  if s.frameOk (b + 3) then s0.setW1 (s.frameWord (b + 3)) else s0

/-- FRMPAIR: each word whose frame passes is updated, also when the command then raises ChecksumError (R204). -/
def execFrmpair (br : BitVec 4) (s : State) : Host.Outcome State Fault Refusal :=
  command (fun s =>
    s.checked (frameFits br 6)
      (let t := (s.updatePair br).setFrameValid (s.frameOk br) (s.frameOk (br + 3))
       t.acceptedOr (s.frameOk br && s.frameOk (br + 3)) t)) s

/-- FRMSER: the serial number of two accepted frames; unchanged when either fails (R205). -/
def execFrmser (br : BitVec 4) (s : State) : Host.Outcome State Fault Refusal :=
  command (fun s =>
    s.checked (frameFits br 6)
      (let t := s.setFrameValid (s.frameOk br) (s.frameOk (br + 3))
       t.acceptedOr (s.frameOk br && s.frameOk (br + 3))
         (t.setSN (serialOf (s.frameWord br) (s.frameWord (br + 3)))))) s

end Sys2Proof.Machine
end

