-- ==== Sys2Proof/Machine/FieldCodec.lean ====
section
/-! DEFINITION. The field codec commands: time, clock and date frames, alarm frames, and the control and status byte
transforms (43_field_codec.md R150 to R176). -/

namespace Sys2Proof.Machine

/-! ## Sub-frames of the time frame (R151) -/

/-- Bytes b0 to b2 of the time frame, from B[b], decoded into V0 to V2 (R151, R154). -/
def State.decodeClock (s : State) (b : BIndex) : State :=
  ((s.setV vSecond (dec (s.getB b))).setV vMinute (dec (s.getB (b + 1)))).setV vHour (decHour (s.getB (b + 2)))

/-- A nibble of bytes b0 to b2, from B[b], is malformed (R152, R154). -/
def State.malClock (s : State) (b : BIndex) : Bool :=
  mal (s.getB b) || mal (s.getB (b + 1)) || malHour (s.getB (b + 2))

/-- Bytes b3 to b6 of the time frame, from B[b], decoded into V3 to V6, the month without its bit 7 (R151, R156). -/
def State.decodeDate (s : State) (b : BIndex) : State :=
  (((s.setV vWeekday (dec (s.getB b))).setV vDate (dec (s.getB (b + 1)))).setV vMonth
    (dec (s.getB (b + 2) &&& 0x7F))).setV vYear (dec (s.getB (b + 3)))

/-- A nibble of bytes b3 to b6, from B[b], is malformed (R152, R156). -/
def State.malDate (s : State) (b : BIndex) : Bool :=
  mal (s.getB b) || mal (s.getB (b + 1)) || mal (s.getB (b + 2) &&& 0x7F) || mal (s.getB (b + 3))

/-- V0 to V2 are in range (R155, R158). -/
def State.clockOk (s : State) : Bool :=
  secondOk (s.getV vSecond) && minuteOk (s.getV vMinute) && hourOk (s.getV vHour)

/-- V3 to V6 are in range (R157, R158). -/
def State.dateFieldsOk (s : State) : Bool :=
  weekdayOk (s.getV vWeekday) && dateOk (s.getV vDate) && monthOk (s.getV vMonth) && yearOk (s.getV vYear)

/-- Bytes b0 to b2 of the time frame, in 24-hour form (R151, R155). -/
def State.clockFrame (s : State) : List Byte := [enc (s.getV vSecond), enc (s.getV vMinute), enc (s.getV vHour)]

/-- Bytes b3 to b6 of the time frame (R151, R157). -/
def State.dateFrame (s : State) : List Byte :=
  [enc (s.getV vWeekday), enc (s.getV vDate), enc (s.getV vMonth), enc (s.getV vYear)]

/-! ## Time, clock and date commands -/

/-- TIMEDEC: the 7-byte time frame into V0 to V6 (R152). -/
def execTimedec (br : BitVec 4) (s : State) : Host.Outcome State Fault Refusal :=
  command (fun s =>
    s.checked (frameFits br 7) (((s.decodeClock br).decodeDate (br + 3)).setMal (s.malClock br || s.malDate (br + 3)))) s

/-- TIMEENC: V0 to V6 into the 7-byte time frame (R153). -/
def execTimeenc (br : BitVec 4) (s : State) : Host.Outcome State Fault Refusal :=
  command (fun s =>
    s.checked (frameFits br 7 && s.clockOk && s.dateFieldsOk) (s.writeBytes br (s.clockFrame ++ s.dateFrame))) s

/-- CLKDEC: the 3-byte clock sub-frame into V0 to V2 (R154). -/
def execClkdec (br : BitVec 4) (s : State) : Host.Outcome State Fault Refusal :=
  command (fun s => s.checked (frameFits br 3) ((s.decodeClock br).setMal (s.malClock br))) s

/-- CLKENC: V0 to V2 into the clock sub-frame (R155). -/
def execClkenc (br : BitVec 4) (s : State) : Host.Outcome State Fault Refusal :=
  command (fun s => s.checked (frameFits br 3 && s.clockOk) (s.writeBytes br s.clockFrame)) s

/-- DATEDEC: the 4-byte date sub-frame into V3 to V6 (R156). -/
def execDatedec (br : BitVec 4) (s : State) : Host.Outcome State Fault Refusal :=
  command (fun s => s.checked (frameFits br 4) ((s.decodeDate br).setMal (s.malDate br))) s

/-- DATEENC: V3 to V6 into the date sub-frame (R157). -/
def execDateenc (br : BitVec 4) (s : State) : Host.Outcome State Fault Refusal :=
  command (fun s => s.checked (frameFits br 4 && s.dateFieldsOk) (s.writeBytes br s.dateFrame)) s

/-! ## Alarm frames -/

/-- The alarm-1 frame of V0 to V4 under mode `m` (R163). -/
def State.alarm1Frame (s : State) (m : Byte) : List Byte :=
  [alarmByte (s.getV vSecond) m 0, alarmByte (s.getV vMinute) m 1, alarmByte (s.getV vHour) m 2,
   alarmDayByte (s.getV vWeekday) (s.getV vDate) m 3]

/-- The alarm-2 frame of V1 to V4 under mode `m` (R167). -/
def State.alarm2Frame (s : State) (m : Byte) : List Byte :=
  [alarmByte (s.getV vMinute) m 0, alarmByte (s.getV vHour) m 1, alarmDayByte (s.getV vWeekday) (s.getV vDate) m 2]

/-- AL1ENC: the 4-byte alarm-1 frame (R163). -/
def execAl1enc (br : BitVec 4) (mode : BitVec 8) (s : State) : Host.Outcome State Fault Refusal :=
  command (fun s =>
    s.checked
      (frameFits br 4 && alarm1Modes.contains mode && secondOk (s.getV vSecond) && minuteOk (s.getV vMinute)
        && hourOk (s.getV vHour) && alarmDayOk (s.getV vWeekday) (s.getV vDate) mode)
      (s.writeBytes br (s.alarm1Frame mode))) s

/-- AL2ENC: the 3-byte alarm-2 frame (R167). -/
def execAl2enc (br : BitVec 4) (mode : BitVec 8) (s : State) : Host.Outcome State Fault Refusal :=
  command (fun s =>
    s.checked
      (frameFits br 3 && alarm2Modes.contains mode && minuteOk (s.getV vMinute) && hourOk (s.getV vHour)
        && alarmDayOk (s.getV vWeekday) (s.getV vDate) mode)
      (s.writeBytes br (s.alarm2Frame mode))) s

/-! ## Control and status byte transforms -/

/-- The byte has the alarm's bit set. -/
def alarmBit (x which : Byte) : Bool := decide (x &&& alarmSel which ≠ 0)

/-- The byte with the alarm's bit cleared and every other bit kept (R173, R174). -/
def clearAlarmBit (x which : Byte) : Byte := x &&& ~~~alarmSel which

/-- ALENTEST: FLAG is the alarm's enable bit under the global enable, bit 2 (R171). -/
def execAlentest (br : BitVec 4) (which : BitVec 8) (s : State) : Host.Outcome State Fault Refusal :=
  command (fun s => s.setFlag ((s.getB br).getLsbD 2 && alarmBit (s.getB br) which)) s

/-- ALENABLE: bits 0 and 2 set for which = 1, bit 1 alone for any other value (R172; 90_conflicts.md C12). -/
def execAlenable (br : BitVec 4) (which : BitVec 8) (s : State) : Host.Outcome State Fault Refusal :=
  command (fun s => s.setB br (s.getB br ||| (if which = 1 then 0x05 else 0x02))) s

/-- ALDISABLE: the alarm's enable bit cleared, bit 2 untouched (R173). -/
def execAldisable (br : BitVec 4) (which : BitVec 8) (s : State) : Host.Outcome State Fault Refusal :=
  command (fun s => s.setB br (clearAlarmBit (s.getB br) which)) s

/-- ALFIRED: FLAG is the alarm's fired bit, which is cleared in the byte (R174). -/
def execAlfired (br : BitVec 4) (which : BitVec 8) (s : State) : Host.Outcome State Fault Refusal :=
  command (fun s => (s.setFlag (alarmBit (s.getB br) which)).setB br (clearAlarmBit (s.getB br) which)) s

end Sys2Proof.Machine
end

