-- ==== Sys2Proof/Machine/Framer.lean ====
section
/-! DEFINITION. The I2C framer commands (41_framer.md R110 to R121). -/

namespace Sys2Proof.Machine

/-- XWR: the register address and B0 to B(N−1) in one write phase (R115). -/
def execXwr (sa : BitVec 7) (ra : BitVec 8) (n : BitVec 5) (s : State) : Host.Outcome State Fault Refusal :=
  command (fun s => s.checked (writeLengthOk n) (s.transact sa (some (ra :: s.bytesFrom 0 n.toNat)) 0)) s

/-- XRD: the register address, then N bytes into B0 to B(N−1) (R116). -/
def execXrd (sa : BitVec 7) (ra : BitVec 8) (n : BitVec 5) (s : State) : Host.Outcome State Fault Refusal :=
  command (fun s => s.checked (readLengthOk n) (s.transact sa (some [ra]) n.toNat)) s

/-- XCMD: the command word, most significant byte first (R120). -/
def execXcmd (sa : BitVec 7) (cw : BitVec 16) (s : State) : Host.Outcome State Fault Refusal :=
  command (fun s => s.transact sa (some [cw.extractLsb' 8 8, cw.extractLsb' 0 8]) 0) s

/-- XRDRAW: no write phase, N bytes into B0 to B(N−1) (R121). -/
def execXrdraw (sa : BitVec 7) (n : BitVec 5) (s : State) : Host.Outcome State Fault Refusal :=
  command (fun s => s.checked (readLengthOk n) (s.transact sa none n.toNat)) s

end Sys2Proof.Machine
end

