-- ==== Sys2Proof/Machine/System.lean ====
section
/-! DEFINITION. The system commands (45_system.md R220, R221). -/

namespace Sys2Proof.Machine

/-- NOP: the prologue only (R220). -/
def execNop (s : State) : Host.Outcome State Fault Refusal := command (fun s => s) s

/-- CLRST: STK cleared (R221). -/
def execClrst (s : State) : Host.Outcome State Fault Refusal := command (fun s => s.setStk false) s

end Sys2Proof.Machine
end

