-- ==== Sys2Proof/Machine/Dispatch.lean ====
section
/-! DEFINITION. The dispatch of a command to its meaning (30_encoding.md R85, R86). -/

namespace Sys2Proof.Machine

/-- One command executed, prologue included (30_encoding.md R86). -/
def exec (i : Instr) (s : State) : Host.Outcome State Fault Refusal :=
  match i with
  | .nop => Sys2Proof.Machine.execNop s
  | .clrst => Sys2Proof.Machine.execClrst s
  | .xwr sa ra n => Sys2Proof.Machine.execXwr sa ra n s
  | .xrd sa ra n => Sys2Proof.Machine.execXrd sa ra n s
  | .xcmd sa cw => Sys2Proof.Machine.execXcmd sa cw s
  | .xrdraw sa n => Sys2Proof.Machine.execXrdraw sa n s
  | .bcddec vr br => Sys2Proof.Machine.execBcddec vr br s
  | .bcdenc br vr => Sys2Proof.Machine.execBcdenc br vr s
  | .timedec br => Sys2Proof.Machine.execTimedec br s
  | .timeenc br => Sys2Proof.Machine.execTimeenc br s
  | .clkdec br => Sys2Proof.Machine.execClkdec br s
  | .clkenc br => Sys2Proof.Machine.execClkenc br s
  | .datedec br => Sys2Proof.Machine.execDatedec br s
  | .dateenc br => Sys2Proof.Machine.execDateenc br s
  | .al1enc br mode => Sys2Proof.Machine.execAl1enc br mode s
  | .al2enc br mode => Sys2Proof.Machine.execAl2enc br mode s
  | .alentest br which => Sys2Proof.Machine.execAlentest br which s
  | .alenable br which => Sys2Proof.Machine.execAlenable br which s
  | .aldisable br which => Sys2Proof.Machine.execAldisable br which s
  | .alfired br which => Sys2Proof.Machine.execAlfired br which s
  | .crcinit => Sys2Proof.Machine.execCrcinit s
  | .crcbyte br => Sys2Proof.Machine.execCrcbyte br s
  | .crc8 br n => Sys2Proof.Machine.execCrc8 br n s
  | .crcvfy br n => Sys2Proof.Machine.execCrcvfy br n s
  | .frmpair br => Sys2Proof.Machine.execFrmpair br s
  | .frmser br => Sys2Proof.Machine.execFrmser br s

end Sys2Proof.Machine
end

