-- ==== Sys2Proof/Machine/Port.lean ====
section
/-! DEFINITION. What the block does with each operation of the host (20_memory.md R51, R52, R55, R65; 30_encoding.md
R86; 70_reset_and_hazards.md R260). -/

namespace Sys2Proof.Machine

/-- A command word is executed: the decoded command, or IllegalCommand (R86). -/
def issue (w : Word32) (s : State) : Host.Outcome State Fault Refusal :=
  match decode w with
  | .ok i => exec i s
  | .error _ => .next s.illegal

/-- One operation of the host is served whole (R65). A host read is answered and changes no register (R51). -/
def serve (op : HostOp) (s : State) : Host.Outcome State Fault Refusal :=
  match op with
  | .command w => issue w s
  | .read a => .next { s with hostReads := s.hostReads ++ [(a, s.hostRead a)] }
  | .write a v => .next (s.hostWrite a v)
  | .reset => .next s.resetBlock

/-- The next operation of the host is taken and served; an idle block changes nothing (R55, R65, R248). -/
def serveNext (s : State) : Host.Outcome State Fault Refusal :=
  match s.port with
  | [] => .next s
  | op :: rest => serve op { s with port := rest }

end Sys2Proof.Machine
end

