-- ==== Sys2Proof/Machine/Step.lean ====
section
/-! DEFINITION. One step of the block, and the placing of a command word where the next step takes it. -/

namespace Sys2Proof.Machine

/-- One step: the block serves the host's next operation (20_memory.md R65), or idles (60_exceptions.md R248). -/
def step (s : State) : Host.Outcome State Fault Refusal := serveNext s

/-- The command word whose low `nbits` bits are those of `w`, issued on the command port ahead of everything else (R55). -/
def State.withFetchWord (s : State) (nbits w : Nat) : State :=
  { s with port := .command (BitVec.ofNat 32 (w % 2 ^ nbits)) :: s.port }

end Sys2Proof.Machine
end

