-- ==== Sys2Proof/Safety.lean ====
section
/-! DEFINITION. The terms the statements about runs use: which commands write what (10_state.md R20 to R32), the legal
values of STATUS and of a recorded transaction, and what stays the same across a command. -/

namespace Sys2Proof.Safety

open Sys2Proof.Machine

/-! ## The opcode table -/

/-- The rows of spec/opcode_table.json as they stand there: mnemonic, match, mask (30_encoding.md R82, R85). -/
def tableRows : List (Mnemonic × Word32 × Word32) :=
  [(.nop, 0x00000000, 0xFFFFFFFF),
   (.clrst, 0x01000000, 0xFFFFFFFF),
   (.xwr, 0x10000000, 0xFF8000E0),
   (.xrd, 0x11000000, 0xFF8000E0),
   (.xcmd, 0x12000000, 0xFF800000),
   (.xrdraw, 0x13000000, 0xFF80FFE0),
   (.bcddec, 0x20000000, 0xFFFFF0F0),
   (.bcdenc, 0x21000000, 0xFFFFF0F0),
   (.timedec, 0x30000000, 0xFFFFFFF0),
   (.timeenc, 0x31000000, 0xFFFFFFF0),
   (.clkdec, 0x32000000, 0xFFFFFFF0),
   (.clkenc, 0x33000000, 0xFFFFFFF0),
   (.datedec, 0x34000000, 0xFFFFFFF0),
   (.dateenc, 0x35000000, 0xFFFFFFF0),
   (.al1enc, 0x36000000, 0xFFFF00F0),
   (.al2enc, 0x37000000, 0xFFFF00F0),
   (.alentest, 0x38000000, 0xFFFF00F0),
   (.alenable, 0x39000000, 0xFFFF00F0),
   (.aldisable, 0x3A000000, 0xFFFF00F0),
   (.alfired, 0x3B000000, 0xFFFF00F0),
   (.crcinit, 0x40000000, 0xFFFFFFFF),
   (.crcbyte, 0x41000000, 0xFFFFFFF0),
   (.crc8, 0x42000000, 0xFFFF00F0),
   (.crcvfy, 0x43000000, 0xFFFF00F0),
   (.frmpair, 0x44000000, 0xFFFFFFF0),
   (.frmser, 0x45000000, 0xFFFFFFF0)]

/-- A word matches a row of the opcode table. -/
def rowMatches (w : Word32) (r : Mnemonic × Word32 × Word32) : Prop := w &&& r.2.2 = r.2.1

/-! ## Families of commands -/

/-- The framer commands (41_framer.md R110). -/
def isFramer : Mnemonic → Bool
  | .xwr | .xrd | .xcmd | .xrdraw => true
  | _ => false

/-- The decode commands, the only ones that may set MAL (R29). -/
def isDecode : Mnemonic → Bool
  | .bcddec | .timedec | .clkdec | .datedec => true
  | _ => false

/-- The commands that may write a B register (R20). -/
def writesB : Mnemonic → Bool
  | .xrd | .xrdraw | .bcdenc | .timeenc | .clkenc | .dateenc | .al1enc | .al2enc | .alenable | .aldisable | .alfired => true
  | _ => false

/-- The commands that write ST.FLAG (R30). -/
def writesFlag : Mnemonic → Bool
  | .alentest | .alfired | .crcvfy => true
  | _ => false

/-- The commands that write ST.FV0 and ST.FV1 (R31). -/
def writesFv : Mnemonic → Bool
  | .frmpair | .frmser => true
  | _ => false

/-- The commands that write CRC (R25). -/
def writesCrc : Mnemonic → Bool
  | .crcinit | .crcbyte | .crc8 | .crcvfy => true
  | _ => false

/-- The V registers a command may write: any for BCDDEC, V0 to V6 for TIMEDEC, V0 to V2 for CLKDEC, V3 to V6 for
DATEDEC (R21). -/
def writesV (m : Mnemonic) (i : VIndex) : Bool :=
  match m with
  | .bcddec => true
  | .timedec => decide (i.toNat ≤ 6)
  | .clkdec => decide (i.toNat ≤ 2)
  | .datedec => decide (3 ≤ i.toNat) && decide (i.toNat ≤ 6)
  | _ => false

/-! ## What stays the same -/

/-- Every B register reads as before. -/
def sameB (s t : State) : Prop := ∀ i, t.getB i = s.getB i

/-- Every V register reads as before. -/
def sameV (s t : State) : Prop := ∀ i, t.getV i = s.getV i

/-- W0 and W1 are as before. -/
def sameW (s t : State) : Prop := t.W0 = s.W0 ∧ t.W1 = s.W1

/-- W0, W1, SN and CRC are as before. -/
def sameWords (s t : State) : Prop := sameW s t ∧ t.SN = s.SN ∧ t.CRC = s.CRC

/-- FLAG, FV0 and FV1 are as before. -/
def sameFlags (s t : State) : Prop := t.ST.flag = s.ST.flag ∧ t.ST.fv0 = s.ST.fv0 ∧ t.ST.fv1 = s.ST.fv1

/-- No transaction was issued: the event history and the Transport's coming answers are as before. -/
def noTransaction (s t : State) : Prop := t.events = s.events ∧ t.draws = s.draws ∧ t.drawCount = s.drawCount

/-- The host's pending operations and the answers it has had are as before. -/
def sameHost (s t : State) : Prop := t.port = s.port ∧ t.hostReads = s.hostReads

/-- Everything outside STATUS is as before. -/
def sameButStatus (s t : State) : Prop :=
  sameB s t ∧ sameV s t ∧ sameWords s t ∧ noTransaction s t ∧ sameHost s t

/-- The command ended without error: ERR is 0, MAL is `mal`, STK is as before (R28, R29, R32, R86). -/
def succeeded (s t : State) (mal : Bool) : Prop := t.ST.err = 0 ∧ t.ST.mal = mal ∧ t.ST.stk = s.ST.stk

/-- The command raised the error: its code in ERR, MAL 0, STK 1 (R12, R235, R86). -/
def raised (t : State) (e : ErrorClass) : Prop := t.ST.err = e.code ∧ t.ST.mal = false ∧ t.ST.stk = true

/-- One transaction was issued and recorded, whatever its result (R60), and one of the Transport's answers used up. -/
def oneTransaction (s t : State) (e : Event) : Prop :=
  t.events = s.events ++ [e] ∧ t.draws = s.draws.tail ∧ t.drawCount = s.drawCount + 1

/-- The command raises the error and changes nothing outside STATUS, nor FLAG, FV0 or FV1 (R12, R236). -/
def rejected (i : Instr) (s : State) (e : ErrorClass) : Prop :=
  ∃ t, exec i s = .next t ∧ raised t e ∧ sameFlags s t ∧ sameButStatus s t

/-- The framer command's transaction fails: BusError, the transaction recorded, no register but STATUS changed, nor
FLAG, FV0 or FV1 (41_framer.md R112). -/
def busFailed (i : Instr) (s : State) (e : Event) : Prop :=
  ∃ t, exec i s = .next t ∧ raised t .busError ∧ sameFlags s t ∧ sameB s t ∧ sameV s t ∧ sameWords s t
    ∧ oneTransaction s t e ∧ sameHost s t

/-- A command that ended without error and issued no transaction changed no B register and no word register, nor FLAG,
FV0 or FV1: only V registers may differ. -/
def onlyV (s t : State) : Prop := sameB s t ∧ sameWords s t ∧ sameFlags s t ∧ noTransaction s t ∧ sameHost s t

/-- The same, where only B registers may differ. -/
def onlyB (s t : State) : Prop := sameV s t ∧ sameWords s t ∧ sameFlags s t ∧ noTransaction s t ∧ sameHost s t

/-- The B registers outside the frame of `len` bytes from B[b] read as before. -/
def sameBOutside (s t : State) (b : BIndex) (len : Nat) : Prop :=
  ∀ j : BIndex, j.toNat < b.toNat ∨ b.toNat + len ≤ j.toNat → t.getB j = s.getB j

/-! ## Legal values -/

/-- A STATUS value a run can have: ERR is never 5 to 7 (R28), an error leaves STK set (R32) and MAL clear (R29). -/
def statusLegal (st : Status) : Bool :=
  decide (st.err.toNat ≤ 4) && (st.err == 0 || (st.stk && !st.mal))

/-- A recorded transaction: 1 to 16 write-phase bytes or no write phase, 0 to 16 read-phase bytes, never neither phase
(R57, R67, R110), and on success exactly rlen bytes (R58). -/
def eventLegal (e : Event) : Bool :=
  (match e.wr with
    | none => decide (1 ≤ e.rlen)
    | some bytes => decide (1 ≤ bytes.length) && decide (bytes.length ≤ 16))
  && decide (e.rlen ≤ 16)
  && (match e.result with
    | .busErr => true
    | .ok rd => decide (rd.length = e.rlen))

/-- The invariant of a run: STATUS and every recorded transaction are legal. -/
def Inv (s : State) : Prop := statusLegal s.ST = true ∧ ∀ e ∈ s.events, eventLegal e = true

/-! ## Why a command raises an error (60_exceptions.md R231 to R233) -/

/-- V0, V1 or V2 is out of range (R158). -/
def clockOut (s : State) : Prop := (s.getV 0).toNat > 59 ∨ (s.getV 1).toNat > 59 ∨ (s.getV 2).toNat > 23

/-- V3, V4, V5 or V6 is out of range (R158). -/
def dateOut (s : State) : Prop :=
  (s.getV 3).toNat < 1 ∨ (s.getV 3).toNat > 7 ∨ (s.getV 4).toNat < 1 ∨ (s.getV 4).toNat > 31
    ∨ (s.getV 5).toNat < 1 ∨ (s.getV 5).toNat > 12 ∨ (s.getV 6).toNat > 99

/-- The day field the mode encodes is out of range (R163, R167). -/
def dayOut (m : Byte) (s : State) : Prop :=
  if m.getLsbD 4 then (s.getV 3).toNat < 1 ∨ (s.getV 3).toNat > 7 else (s.getV 4).toNat < 1 ∨ (s.getV 4).toNat > 31

/-- The ValidationError causes of R233. -/
def validationCause (i : Instr) (s : State) : Prop :=
  match i with
  | .xwr _ _ n => n.toNat > 15
  | .xrd _ _ n | .xrdraw _ n => n.toNat = 0 ∨ n.toNat > 16
  | .bcddec vr _ => vr.toNat > 7
  | .bcdenc _ vr => vr.toNat > 7 ∨ (s.getV (vr.setWidth 3)).toNat > 99
  | .timedec br => br.toNat > 9
  | .clkdec br => br.toNat > 13
  | .datedec br => br.toNat > 12
  | .timeenc br => br.toNat > 9 ∨ clockOut s ∨ dateOut s
  | .clkenc br => br.toNat > 13 ∨ clockOut s
  | .dateenc br => br.toNat > 12 ∨ dateOut s
  | .al1enc br m =>
      br.toNat > 12 ∨ m.toNat ∉ [0x0F, 0x0E, 0x0C, 0x08, 0x00, 0x10] ∨ clockOut s ∨ dayOut m s
  | .al2enc br m =>
      br.toNat > 13 ∨ m.toNat ∉ [0x07, 0x06, 0x04, 0x00, 0x10] ∨ (s.getV 1).toNat > 59 ∨ (s.getV 2).toNat > 23 ∨ dayOut m s
  | .crc8 br n => n.toNat > 16 ∨ br.toNat + n.toNat > 16
  | .crcvfy br n => br.toNat + n.toNat + 1 > 16
  | .frmpair br | .frmser br => br.toNat > 10
  | .nop | .clrst | .xcmd _ _ | .alentest _ _ | .alenable _ _ | .aldisable _ _ | .alfired _ _ | .crcinit | .crcbyte _ => False

/-- A sensor frame of a two-frame command fails its CRC check (R232). -/
def frameFails (br : BIndex) (s : State) : Prop :=
  crc8 [s.getB br, s.getB (br + 1)] ≠ s.getB (br + 2) ∨ crc8 [s.getB (br + 3), s.getB (br + 4)] ≠ s.getB (br + 5)

end Sys2Proof.Safety
end

