-- ==== Sys2Proof/Certificates/Slice0/Obligations.lean ====
section
/-! DEFINITION. The statements for the provers. Each docstring names the rule of spec/ it formalises. -/

open Sys2Proof Sys2Proof.Machine Sys2Proof.Safety

/-! ## Encoding -/

/-- Decoding the word of an instruction gives the instruction back, every operand at every value (30_encoding.md R82,
R84, R85). -/
def Obligations.DecodeReadsEncodedInstruction : Prop := ∀ i : Instr, decode (encode i) = .ok i

/-- A word that decodes is the word of the instruction it decodes to: each command word has one meaning and no bit of it
is ignored (30_encoding.md R83, R87). -/
def Obligations.EncodeWritesDecodedWord : Prop := ∀ (w : Word32) (i : Instr), decode w = .ok i → encode i = w

/-- The decoder is the opcode table: a word is command m iff it matches m's row, and no word matches two rows
(30_encoding.md R88). -/
def Obligations.DecoderIsTheOpcodeTable : Prop :=
  (∀ (w : Word32) (m : Mnemonic),
    (∃ i, decode w = .ok i ∧ i.mnemonic = m) ↔ ∃ r ∈ tableRows, r.1 = m ∧ r.2.1.extractLsb' 24 8 = w.extractLsb' 24 8 ∧ rowMatches w r)
  ∧ ∀ (w : Word32), ∀ r ∈ tableRows, ∀ r' ∈ tableRows, rowMatches w r → rowMatches w r' → r = r'

/-- The operands of a decoded word are its fields as unsigned numbers, at the bit places of 30_encoding.md R81. -/
def Obligations.OperandsAreTheFieldsOfTheWord : Prop :=
  ∀ (w : Word32) (i : Instr), decode w = .ok i →
    match i with
    | .nop | .clrst | .crcinit => True
    | .xwr sa ra n | .xrd sa ra n =>
        sa.toNat = w.toNat / 65536 % 128 ∧ ra.toNat = w.toNat / 256 % 256 ∧ n.toNat = w.toNat % 32
    | .xcmd sa cw => sa.toNat = w.toNat / 65536 % 128 ∧ cw.toNat = w.toNat % 65536
    | .xrdraw sa n => sa.toNat = w.toNat / 65536 % 128 ∧ n.toNat = w.toNat % 32
    | .bcddec vr br | .bcdenc br vr => vr.toNat = w.toNat / 256 % 16 ∧ br.toNat = w.toNat % 16
    | .timedec br | .timeenc br | .clkdec br | .clkenc br | .datedec br | .dateenc br | .crcbyte br | .frmpair br
    | .frmser br => br.toNat = w.toNat % 16
    | .al1enc br p | .al2enc br p | .alentest br p | .alenable br p | .aldisable br p | .alfired br p | .crc8 br p
    | .crcvfy br p => p.toNat = w.toNat / 256 % 256 ∧ br.toNat = w.toNat % 16

/-- A few command words of 95_test_vectors.md decode to the commands they are given for. -/
def Obligations.SpecWordsDecode : Prop :=
  decode 0x10680007 = .ok (.xwr 0x68 0x00 7) ∧ decode 0x12442400 = .ok (.xcmd 0x44 0x2400)
  ∧ decode 0x20000703 = .ok (.bcddec 7 3) ∧ decode 0x36000F00 = .ok (.al1enc 0 0x0F)
  ∧ decode 0x4300020D = .ok (.crcvfy 13 2) ∧ decode 0x02000000 = .error .unassignedOpcode
  ∧ decode 0x20000010 = .error .mustBeZeroSet

/-- Every instruction has a source line, which assembles to its word; and a line the assembler accepts assembles to a
word that decodes to an instruction with that very line (30_encoding.md R89). -/
def Obligations.AssemblerAndDecoderAgree : Prop :=
  (∀ i : Instr, assemble i.toSource = some (encode i))
  ∧ ∀ (l : SourceLine) (w : Word32), assemble l = some w → ∃ i, decode w = .ok i ∧ i.toSource = l

/-! ## The step -/

/-- A step at a command word that decodes to i is exec of i at the state with the word taken off the port; what else
step adds is nothing (20_memory.md R55, 30_encoding.md R86). -/
def Obligations.StepRunsTheDecodedCommand : Prop :=
  ∀ (s : State) (w : Word32) (rest : List HostOp) (i : Instr),
    s.port = .command w :: rest → decode w = .ok i → step s = exec i { s with port := rest }

/-- A command word that matches no row raises IllegalCommand: ERR 4, MAL 0, STK 1, nothing else changed and no
transaction (30_encoding.md R86, R87). -/
def Obligations.IllegalWordChangesStatusOnly : Prop :=
  ∀ (s : State) (w : Word32) (rest : List HostOp),
    s.port = .command w :: rest → (∀ r ∈ tableRows, ¬rowMatches w r) →
      ∃ t, step s = .next t ∧ raised t .illegalCommand ∧ sameFlags s t ∧ sameB s t ∧ sameV s t ∧ sameWords s t
        ∧ noTransaction s t ∧ t.port = rest ∧ t.hostReads = s.hostReads

/-- IllegalCommand is raised by the words of no row and by no other (60_exceptions.md R234). -/
def Obligations.IllegalCommandExactlyForWordsOfNoRow : Prop :=
  ∀ (s t : State) (w : Word32) (rest : List HostOp),
    s.port = .command w :: rest → step s = .next t → (t.ST.err = 4 ↔ ∀ r ∈ tableRows, ¬rowMatches w r)

/-- The block never stops: every step, from every state, answers a next state (60_exceptions.md R238, R239). Three parts are
the model's choice: that nothing faults (log 9, read from R238), that every Transfer returns (log 16: 41_framer.md R114 says
a model may take it so), and that idling is a step at all (log 6). -/
def Obligations.EveryStepAnswersANextState : Prop := ∀ s : State, ∃ t, step s = .next t

/-- An idle step changes nothing. That idling is a step at all is the model's choice (log 6); 60_exceptions.md R248 says only
that idling changes no state. -/
def Obligations.IdleStepChangesNothing : Prop := ∀ s : State, s.port = [] → step s = .next s

/-! ## System commands -/

/-- NOP clears ERR and MAL and changes nothing else; any other word with its OP is illegal (45_system.md R220). -/
def Obligations.NopRunsThePrologueOnly : Prop :=
  encode .nop = 0x00000000
  ∧ (∀ w : Word32, w.extractLsb' 24 8 = 0x00 → w ≠ 0x00000000 → decode w = .error .mustBeZeroSet)
  ∧ ∀ s : State, ∃ t, exec .nop s = .next t ∧ succeeded s t false ∧ sameFlags s t ∧ sameButStatus s t

/-- CLRST clears ERR, MAL and STK and changes nothing else; any other word with its OP is illegal (45_system.md R221). -/
def Obligations.ClrstClearsTheStickyBit : Prop :=
  encode .clrst = 0x01000000
  ∧ (∀ w : Word32, w.extractLsb' 24 8 = 0x01 → w ≠ 0x01000000 → decode w = .error .mustBeZeroSet)
  ∧ ∀ s : State, ∃ t, exec .clrst s = .next t ∧ t.ST.err = 0 ∧ t.ST.mal = false ∧ t.ST.stk = false
      ∧ sameFlags s t ∧ sameButStatus s t

/-! ## Framer commands

The Transport's answer is `nextDraw`, a field of the model's own or a free value (log 2). -/

/-- XWR sends the register address and B0 to B(N−1) as one transaction and changes no register but STATUS (41_framer.md R115). -/
def Obligations.XwrSendsAddressAndPayload : Prop :=
  ∀ (s : State) (sa : BitVec 7) (ra : BitVec 8) (n : BitVec 5),
    let wr := ra :: (List.range n.toNat).map fun k => s.getB (BitVec.ofNat 4 k)
    encode (.xwr sa ra n) = 0x10000000 ||| (sa.setWidth 32 <<< 16) ||| (ra.setWidth 32 <<< 8) ||| n.setWidth 32
    ∧ (n.toNat > 15 → rejected (.xwr sa ra n) s .validationError)
    ∧ (n.toNat ≤ 15 → s.nextDraw = .busErr →
        busFailed (.xwr sa ra n) s { sa := sa, wr := some wr, rlen := 0, result := .busErr })
    ∧ (n.toNat ≤ 15 → s.nextDraw ≠ .busErr →
        ∃ t, exec (.xwr sa ra n) s = .next t ∧ succeeded s t false ∧ sameFlags s t ∧ sameB s t ∧ sameV s t ∧ sameWords s t
          ∧ oneTransaction s t { sa := sa, wr := some wr, rlen := 0, result := .ok [] } ∧ sameHost s t)

/-- XRD sends the register address and reads N bytes into B0 to B(N−1) in one transaction (41_framer.md R116). -/
def Obligations.XrdReadsBytesIntoB : Prop :=
  ∀ (s : State) (sa : BitVec 7) (ra : BitVec 8) (n : BitVec 5),
    encode (.xrd sa ra n) = 0x11000000 ||| (sa.setWidth 32 <<< 16) ||| (ra.setWidth 32 <<< 8) ||| n.setWidth 32
    ∧ (n.toNat = 0 ∨ n.toNat > 16 → rejected (.xrd sa ra n) s .validationError)
    ∧ (1 ≤ n.toNat → n.toNat ≤ 16 → s.nextDraw = .busErr →
        busFailed (.xrd sa ra n) s { sa := sa, wr := some [ra], rlen := n.toNat, result := .busErr })
    ∧ ∀ bytes : Vector Byte 16, 1 ≤ n.toNat → n.toNat ≤ 16 → s.nextDraw = .ok bytes →
        ∃ t, exec (.xrd sa ra n) s = .next t
          ∧ (∀ k : BIndex, t.getB k = if k.toNat < n.toNat then bytes[k.toNat]'k.isLt else s.getB k)
          ∧ succeeded s t false ∧ sameFlags s t ∧ sameV s t ∧ sameWords s t
          ∧ oneTransaction s t { sa := sa, wr := some [ra], rlen := n.toNat, result := .ok (bytes.toList.take n.toNat) }
          ∧ sameHost s t

/-- XCMD sends the command word, most significant byte first; every SA and CW is accepted (41_framer.md R120). -/
def Obligations.XcmdSendsTheCommandWord : Prop :=
  ∀ (s : State) (sa : BitVec 7) (cw : BitVec 16),
    let wr := [BitVec.ofNat 8 (cw.toNat / 256), BitVec.ofNat 8 (cw.toNat % 256)]
    encode (.xcmd sa cw) = 0x12000000 ||| (sa.setWidth 32 <<< 16) ||| cw.setWidth 32
    ∧ (s.nextDraw = .busErr → busFailed (.xcmd sa cw) s { sa := sa, wr := some wr, rlen := 0, result := .busErr })
    ∧ (s.nextDraw ≠ .busErr →
        ∃ t, exec (.xcmd sa cw) s = .next t ∧ succeeded s t false ∧ sameFlags s t ∧ sameB s t ∧ sameV s t ∧ sameWords s t
          ∧ oneTransaction s t { sa := sa, wr := some wr, rlen := 0, result := .ok [] } ∧ sameHost s t)

/-- XRDRAW reads N bytes into B0 to B(N−1) with no write phase (41_framer.md R121). -/
def Obligations.XrdrawReadsWithoutWritePhase : Prop :=
  ∀ (s : State) (sa : BitVec 7) (n : BitVec 5),
    encode (.xrdraw sa n) = 0x13000000 ||| (sa.setWidth 32 <<< 16) ||| n.setWidth 32
    ∧ (n.toNat = 0 ∨ n.toNat > 16 → rejected (.xrdraw sa n) s .validationError)
    ∧ (1 ≤ n.toNat → n.toNat ≤ 16 → s.nextDraw = .busErr →
        busFailed (.xrdraw sa n) s { sa := sa, wr := none, rlen := n.toNat, result := .busErr })
    ∧ ∀ bytes : Vector Byte 16, 1 ≤ n.toNat → n.toNat ≤ 16 → s.nextDraw = .ok bytes →
        ∃ t, exec (.xrdraw sa n) s = .next t
          ∧ (∀ k : BIndex, t.getB k = if k.toNat < n.toNat then bytes[k.toNat]'k.isLt else s.getB k)
          ∧ succeeded s t false ∧ sameFlags s t ∧ sameV s t ∧ sameWords s t
          ∧ oneTransaction s t { sa := sa, wr := none, rlen := n.toNat, result := .ok (bytes.toList.take n.toNat) }
          ∧ sameHost s t

/-! ## BCD -/

/-- `dec` is the exact formula, 0 to 165 and 0 to 99 for two digits; `mal` is a nibble above 9 (42_bcd.md R140, R141). -/
def Obligations.DecAndMalAreTheFormulas : Prop :=
  ∀ x : Byte,
    (dec x).toNat = x.toNat / 16 * 10 + x.toNat % 16 ∧ (dec x).toNat ≤ 165
    ∧ (mal x = true ↔ x.toNat / 16 > 9 ∨ x.toNat % 16 > 9)
    ∧ (mal x = false → (dec x).toNat ≤ 99)

/-- BCD round trips both ways (42_bcd.md R145). -/
def Obligations.BcdRoundTrips : Prop :=
  (∀ v : Byte, v.toNat ≤ 99 → dec (enc v) = v ∧ mal (enc v) = false)
  ∧ ∀ x : Byte, mal x = false → enc (dec x) = x

/-- BCDDEC stores the formula's value in V[VR] and sets MAL for a nibble above 9 (42_bcd.md R143). -/
def Obligations.BcddecDecodesOneByte : Prop :=
  ∀ (s : State) (vr br : BitVec 4),
    let x := (s.getB br).toNat
    encode (.bcddec vr br) = 0x20000000 ||| (vr.setWidth 32 <<< 8) ||| br.setWidth 32
    ∧ (vr.toNat > 7 → rejected (.bcddec vr br) s .validationError)
    ∧ (vr.toNat ≤ 7 →
        ∃ t, exec (.bcddec vr br) s = .next t
          ∧ (∀ j : VIndex, (t.getV j).toNat = if j.toNat = vr.toNat then x / 16 * 10 + x % 16 else (s.getV j).toNat)
          ∧ succeeded s t (decide (x / 16 > 9 ∨ x % 16 > 9)) ∧ onlyV s t)

/-- BCDENC stores the BCD byte of V[VR] in B[BR], or raises ValidationError for a value above 99 (42_bcd.md R144). -/
def Obligations.BcdencEncodesOneValue : Prop :=
  ∀ (s : State) (br vr : BitVec 4),
    let v := (s.getV (vr.setWidth 3)).toNat
    encode (.bcdenc br vr) = 0x21000000 ||| (vr.setWidth 32 <<< 8) ||| br.setWidth 32
    ∧ (vr.toNat > 7 ∨ v > 99 → rejected (.bcdenc br vr) s .validationError)
    ∧ (vr.toNat ≤ 7 → v ≤ 99 →
        ∃ t, exec (.bcdenc br vr) s = .next t
          ∧ (∀ j : BIndex, (t.getB j).toNat = if j = br then v / 10 * 16 + v % 10 else (s.getB j).toNat)
          ∧ succeeded s t false ∧ onlyB s t)

/-! ## Time, clock and date -/

/-- `decHour` and `malHour` follow the path bit 6 selects, bit 7 ignored, 12 added for PM, nothing corrected
(43_field_codec.md R150, R160). -/
def Obligations.HourFoldIsTheFormula : Prop :=
  ∀ b : Byte,
    let x := b.toNat
    (decHour b).toNat =
      (if x / 64 % 2 = 1 then x % 32 / 16 * 10 + x % 16 + (if x / 32 % 2 = 1 then 12 else 0)
       else x % 64 / 16 * 10 + x % 16)
    ∧ (malHour b = true ↔ (if x / 64 % 2 = 1 then x % 32 / 16 > 9 else x % 64 / 16 > 9) ∨ x % 16 > 9)
    ∧ (decHour b).toNat ≤ (if x / 64 % 2 = 1 then 37 else 45)
    ∧ decHour 0x52 = 12 ∧ decHour 0x72 = 24 ∧ decHour 0x41 = 1 ∧ decHour 0x61 = 13 ∧ decHour 0x71 = 23

/-- TIMEDEC decodes the 7-byte frame at B[BR] into V0 to V6 (43_field_codec.md R152). -/
def Obligations.TimedecDecodesTheTimeFrame : Prop :=
  ∀ (s : State) (br : BitVec 4),
    encode (.timedec br) = 0x30000000 ||| br.setWidth 32
    ∧ (br.toNat > 9 → rejected (.timedec br) s .validationError)
    ∧ (br.toNat ≤ 9 →
        ∃ t, exec (.timedec br) s = .next t
          ∧ t.getV 0 = dec (s.getB br) ∧ t.getV 1 = dec (s.getB (br + 1)) ∧ t.getV 2 = decHour (s.getB (br + 2))
          ∧ t.getV 3 = dec (s.getB (br + 3)) ∧ t.getV 4 = dec (s.getB (br + 4))
          ∧ t.getV 5 = dec (s.getB (br + 5) &&& 0x7F) ∧ t.getV 6 = dec (s.getB (br + 6)) ∧ t.getV 7 = s.getV 7
          ∧ succeeded s t (mal (s.getB br) || mal (s.getB (br + 1)) || malHour (s.getB (br + 2)) || mal (s.getB (br + 3))
              || mal (s.getB (br + 4)) || mal (s.getB (br + 5) &&& 0x7F) || mal (s.getB (br + 6)))
          ∧ onlyV s t)

/-- TIMEENC writes V0 to V6 as the 7-byte frame at B[BR], or raises ValidationError (43_field_codec.md R153). -/
def Obligations.TimeencEncodesTheTimeFrame : Prop :=
  ∀ (s : State) (br : BitVec 4),
    encode (.timeenc br) = 0x31000000 ||| br.setWidth 32
    ∧ (br.toNat > 9 ∨ clockOut s ∨ dateOut s → rejected (.timeenc br) s .validationError)
    ∧ (br.toNat ≤ 9 → ¬clockOut s → ¬dateOut s →
        ∃ t, exec (.timeenc br) s = .next t
          ∧ t.getB br = enc (s.getV 0) ∧ t.getB (br + 1) = enc (s.getV 1) ∧ t.getB (br + 2) = enc (s.getV 2)
          ∧ t.getB (br + 3) = enc (s.getV 3) ∧ t.getB (br + 4) = enc (s.getV 4) ∧ t.getB (br + 5) = enc (s.getV 5)
          ∧ t.getB (br + 6) = enc (s.getV 6) ∧ sameBOutside s t br 7
          ∧ (t.getB (br + 2)).getLsbD 6 = false ∧ (t.getB (br + 5)).getLsbD 7 = false
          ∧ succeeded s t false ∧ onlyB s t)

/-- CLKDEC decodes the 3-byte sub-frame at B[BR] into V0 to V2 (43_field_codec.md R154). -/
def Obligations.ClkdecDecodesTheClockFrame : Prop :=
  ∀ (s : State) (br : BitVec 4),
    encode (.clkdec br) = 0x32000000 ||| br.setWidth 32
    ∧ (br.toNat > 13 → rejected (.clkdec br) s .validationError)
    ∧ (br.toNat ≤ 13 →
        ∃ t, exec (.clkdec br) s = .next t
          ∧ t.getV 0 = dec (s.getB br) ∧ t.getV 1 = dec (s.getB (br + 1)) ∧ t.getV 2 = decHour (s.getB (br + 2))
          ∧ (∀ j : VIndex, 3 ≤ j.toNat → t.getV j = s.getV j)
          ∧ succeeded s t (mal (s.getB br) || mal (s.getB (br + 1)) || malHour (s.getB (br + 2))) ∧ onlyV s t)

/-- CLKENC writes V0 to V2 as the 3-byte sub-frame at B[BR], or raises ValidationError (43_field_codec.md R155). -/
def Obligations.ClkencEncodesTheClockFrame : Prop :=
  ∀ (s : State) (br : BitVec 4),
    encode (.clkenc br) = 0x33000000 ||| br.setWidth 32
    ∧ (br.toNat > 13 ∨ clockOut s → rejected (.clkenc br) s .validationError)
    ∧ (br.toNat ≤ 13 → ¬clockOut s →
        ∃ t, exec (.clkenc br) s = .next t
          ∧ t.getB br = enc (s.getV 0) ∧ t.getB (br + 1) = enc (s.getV 1) ∧ t.getB (br + 2) = enc (s.getV 2)
          ∧ sameBOutside s t br 3 ∧ (t.getB (br + 2)).getLsbD 6 = false ∧ succeeded s t false ∧ onlyB s t)

/-- DATEDEC decodes the 4-byte sub-frame at B[BR] into V3 to V6 (43_field_codec.md R156). -/
def Obligations.DatedecDecodesTheDateFrame : Prop :=
  ∀ (s : State) (br : BitVec 4),
    encode (.datedec br) = 0x34000000 ||| br.setWidth 32
    ∧ (br.toNat > 12 → rejected (.datedec br) s .validationError)
    ∧ (br.toNat ≤ 12 →
        ∃ t, exec (.datedec br) s = .next t
          ∧ t.getV 3 = dec (s.getB br) ∧ t.getV 4 = dec (s.getB (br + 1)) ∧ t.getV 5 = dec (s.getB (br + 2) &&& 0x7F)
          ∧ t.getV 6 = dec (s.getB (br + 3)) ∧ (∀ j : VIndex, j.toNat < 3 ∨ j.toNat = 7 → t.getV j = s.getV j)
          ∧ succeeded s t (mal (s.getB br) || mal (s.getB (br + 1)) || mal (s.getB (br + 2) &&& 0x7F)
              || mal (s.getB (br + 3)))
          ∧ onlyV s t)

/-- DATEENC writes V3 to V6 as the 4-byte sub-frame at B[BR], or raises ValidationError (43_field_codec.md R157). -/
def Obligations.DateencEncodesTheDateFrame : Prop :=
  ∀ (s : State) (br : BitVec 4),
    encode (.dateenc br) = 0x35000000 ||| br.setWidth 32
    ∧ (br.toNat > 12 ∨ dateOut s → rejected (.dateenc br) s .validationError)
    ∧ (br.toNat ≤ 12 → ¬dateOut s →
        ∃ t, exec (.dateenc br) s = .next t
          ∧ t.getB br = enc (s.getV 3) ∧ t.getB (br + 1) = enc (s.getV 4) ∧ t.getB (br + 2) = enc (s.getV 5)
          ∧ t.getB (br + 3) = enc (s.getV 6) ∧ sameBOutside s t br 4 ∧ (t.getB (br + 2)).getLsbD 7 = false
          ∧ succeeded s t false ∧ onlyB s t)

/-- Fields in range, encoded and then decoded on the same base, come back with MAL 0, whatever happened to the V
registers between: the whole time, the clock alone, the date alone (43_field_codec.md R159). -/
def Obligations.TimeFramesRoundTrip : Prop :=
  ∀ (s : State) (br : BitVec 4),
    (br.toNat ≤ 9 → ¬clockOut s → ¬dateOut s →
      ∃ t, exec (.timeenc br) s = .next t ∧ ∀ t', sameB t t' →
        ∃ u, exec (.timedec br) t' = .next u ∧ (∀ j : VIndex, j.toNat ≤ 6 → u.getV j = s.getV j) ∧ u.ST.mal = false)
    ∧ (br.toNat ≤ 13 → ¬clockOut s →
      ∃ t, exec (.clkenc br) s = .next t ∧ ∀ t', sameB t t' →
        ∃ u, exec (.clkdec br) t' = .next u ∧ (∀ j : VIndex, j.toNat ≤ 2 → u.getV j = s.getV j) ∧ u.ST.mal = false)
    ∧ (br.toNat ≤ 12 → ¬dateOut s →
      ∃ t, exec (.dateenc br) s = .next t ∧ ∀ t', sameB t t' →
        ∃ u, exec (.datedec br) t' = .next u ∧ (∀ j : VIndex, 3 ≤ j.toNat → j.toNat ≤ 6 → u.getV j = s.getV j)
          ∧ u.ST.mal = false)

/-! ## Alarm frames and the control and status bytes -/

/-- AL1ENC writes the 4-byte alarm-1 frame at B[BR], or raises ValidationError (43_field_codec.md R163). -/
def Obligations.Al1encEncodesTheAlarm1Frame : Prop :=
  ∀ (s : State) (br : BitVec 4) (m : BitVec 8),
    encode (.al1enc br m) = 0x36000000 ||| (m.setWidth 32 <<< 8) ||| br.setWidth 32
    ∧ (br.toNat > 12 ∨ m ∉ [0x0F, 0x0E, 0x0C, 0x08, 0x00, 0x10] ∨ clockOut s ∨ dayOut m s →
        rejected (.al1enc br m) s .validationError)
    ∧ (br.toNat ≤ 12 → m ∈ [0x0F, 0x0E, 0x0C, 0x08, 0x00, 0x10] → ¬clockOut s → ¬dayOut m s →
        ∃ t, exec (.al1enc br m) s = .next t
          ∧ t.getB br = enc (s.getV 0) ||| ((m &&& 0x01) <<< 7)
          ∧ t.getB (br + 1) = enc (s.getV 1) ||| ((m &&& 0x02) <<< 6)
          ∧ t.getB (br + 2) = enc (s.getV 2) ||| ((m &&& 0x04) <<< 5)
          ∧ t.getB (br + 3) = (if m.getLsbD 4 then enc (s.getV 3) ||| ((m &&& 0x08) <<< 4) ||| 0x40
              else enc (s.getV 4) ||| ((m &&& 0x08) <<< 4))
          ∧ sameBOutside s t br 4 ∧ succeeded s t false ∧ onlyB s t)

/-- AL2ENC writes the 3-byte alarm-2 frame at B[BR], or raises ValidationError (43_field_codec.md R167). -/
def Obligations.Al2encEncodesTheAlarm2Frame : Prop :=
  ∀ (s : State) (br : BitVec 4) (m : BitVec 8),
    let out := (s.getV 1).toNat > 59 ∨ (s.getV 2).toNat > 23 ∨ dayOut m s
    encode (.al2enc br m) = 0x37000000 ||| (m.setWidth 32 <<< 8) ||| br.setWidth 32
    ∧ (br.toNat > 13 ∨ m ∉ [0x07, 0x06, 0x04, 0x00, 0x10] ∨ out → rejected (.al2enc br m) s .validationError)
    ∧ (br.toNat ≤ 13 → m ∈ [0x07, 0x06, 0x04, 0x00, 0x10] → ¬out →
        ∃ t, exec (.al2enc br m) s = .next t
          ∧ t.getB br = enc (s.getV 1) ||| ((m &&& 0x01) <<< 7)
          ∧ t.getB (br + 1) = enc (s.getV 2) ||| ((m &&& 0x02) <<< 6)
          ∧ t.getB (br + 2) = (if m.getLsbD 4 then enc (s.getV 3) ||| ((m &&& 0x04) <<< 5) ||| 0x40
              else enc (s.getV 4) ||| ((m &&& 0x04) <<< 5))
          ∧ sameBOutside s t br 3 ∧ succeeded s t false ∧ onlyB s t)

/-- ALENTEST sets FLAG to the alarm's enable bit under the global enable, bit 2 (43_field_codec.md R171). -/
def Obligations.AlentestTestsUnderTheGlobalEnable : Prop :=
  ∀ (s : State) (br : BitVec 4) (which : BitVec 8),
    encode (.alentest br which) = 0x38000000 ||| (which.setWidth 32 <<< 8) ||| br.setWidth 32
    ∧ ∃ t, exec (.alentest br which) s = .next t
        ∧ t.ST.flag = ((s.getB br).getLsbD 2 && (if which = 1 then (s.getB br).getLsbD 0 else (s.getB br).getLsbD 1))
        ∧ t.ST.fv0 = s.ST.fv0 ∧ t.ST.fv1 = s.ST.fv1 ∧ succeeded s t false ∧ sameButStatus s t

/-- ALENABLE sets bits 0 and 2 for which = 1, bit 1 alone for any other value (43_field_codec.md R172). -/
def Obligations.AlenableSetsTheEnableBits : Prop :=
  ∀ (s : State) (br : BitVec 4) (which : BitVec 8),
    encode (.alenable br which) = 0x39000000 ||| (which.setWidth 32 <<< 8) ||| br.setWidth 32
    ∧ ∃ t, exec (.alenable br which) s = .next t
        ∧ (∀ k < 8, (t.getB br).getLsbD k
            = ((s.getB br).getLsbD k || (if which = 1 then decide (k = 0 ∨ k = 2) else decide (k = 1))))
        ∧ (∀ j : BIndex, j ≠ br → t.getB j = s.getB j) ∧ succeeded s t false ∧ onlyB s t

/-- ALDISABLE clears the alarm's enable bit and no other (43_field_codec.md R173). -/
def Obligations.AldisableClearsOneEnableBit : Prop :=
  ∀ (s : State) (br : BitVec 4) (which : BitVec 8),
    encode (.aldisable br which) = 0x3A000000 ||| (which.setWidth 32 <<< 8) ||| br.setWidth 32
    ∧ ∃ t, exec (.aldisable br which) s = .next t
        ∧ (∀ k < 8, (t.getB br).getLsbD k = ((s.getB br).getLsbD k && decide (k ≠ if which = 1 then 0 else 1)))
        ∧ (∀ j : BIndex, j ≠ br → t.getB j = s.getB j) ∧ succeeded s t false ∧ onlyB s t

/-- ALFIRED reports the alarm's fired bit in FLAG and clears that bit and no other (43_field_codec.md R174). -/
def Obligations.AlfiredConsumesOneFlag : Prop :=
  ∀ (s : State) (br : BitVec 4) (which : BitVec 8),
    encode (.alfired br which) = 0x3B000000 ||| (which.setWidth 32 <<< 8) ||| br.setWidth 32
    ∧ ∃ t, exec (.alfired br which) s = .next t
        ∧ t.ST.flag = (if which = 1 then (s.getB br).getLsbD 0 else (s.getB br).getLsbD 1)
        ∧ (∀ k < 8, (t.getB br).getLsbD k = ((s.getB br).getLsbD k && decide (k ≠ if which = 1 then 0 else 1)))
        ∧ (∀ j : BIndex, j ≠ br → t.getB j = s.getB j)
        ∧ t.ST.fv0 = s.ST.fv0 ∧ t.ST.fv1 = s.ST.fv1 ∧ succeeded s t false
        ∧ sameV s t ∧ sameWords s t ∧ noTransaction s t ∧ sameHost s t

/-- The laws of the transforms: ALENABLE and ALDISABLE idempotent, ALDISABLE after ALENABLE leaves the alarm's bit
clear, a second ALFIRED finds nothing, and none changes bits 7:3 (43_field_codec.md R176). -/
def Obligations.AlarmTransformLaws : Prop :=
  ∀ (s : State) (br : BitVec 4) (which : BitVec 8), ∃ e ee d dd ed f ff,
    exec (.alenable br which) s = .next e ∧ exec (.alenable br which) e = .next ee
    ∧ exec (.aldisable br which) s = .next d ∧ exec (.aldisable br which) d = .next dd
    ∧ exec (.aldisable br which) e = .next ed
    ∧ exec (.alfired br which) s = .next f ∧ exec (.alfired br which) f = .next ff
    ∧ sameB e ee ∧ sameB d dd ∧ ed.getB br &&& (if which = 1 then 0x01 else 0x02) = 0 ∧ ff.ST.flag = false
    ∧ ∀ k, 3 ≤ k → (e.getB br).getLsbD k = (s.getB br).getLsbD k ∧ (d.getB br).getLsbD k = (s.getB br).getLsbD k
        ∧ (f.getB br).getLsbD k = (s.getB br).getLsbD k

/-! ## CRC -/

/-- `crcStep` is eight rounds of the 9-bit polynomial division by 0x131, the data byte entering by XOR (44_crc.md R190). -/
def Obligations.CrcStepDividesByThePolynomial : Prop :=
  ∀ c x : Byte,
    crcStep c x =
      Nat.repeat (fun c : Byte => if c.getLsbD 7 then ((c.setWidth 9 <<< 1) ^^^ 0x131#9).setWidth 8 else c <<< 1) 8 (c ^^^ x)

/-- The properties of `crc8` that 44_crc.md R192 asks a model to show: the pinned vectors and steps, the zero residue,
linearity. -/
def Obligations.CrcPropertiesOfTheSpec : Prop :=
  (crc8 [0xBE, 0xEF] = 0x92 ∧ crcStep 0xFF 0xBE = 0x0C ∧ crcStep 0x0C 0xEF = 0x92
    ∧ (List.range 8).map (fun k => Nat.repeat crcShift (k + 1) (0xFF ^^^ 0xBE))
        = [0x82, 0x35, 0x6A, 0xD4, 0x99, 0x03, 0x06, 0x0C])
  ∧ (∀ xs : List Byte, crc8 (xs ++ [crc8 xs]) = 0x00) ∧ crc8 [0xBE, 0xEF, 0x92] = 0x00
  ∧ (crc8 [0xFF] = 0x00 ∧ crc8 [0x00] = 0xAC ∧ crc8 [0x00, 0x00] = 0x81)
  ∧ ∀ xs ys : List Byte, xs.length = ys.length →
      crc8 (List.zipWith (fun x y => x ^^^ y) xs ys) = crc8 xs ^^^ crc8 ys ^^^ crc8 (List.replicate xs.length 0x00)

/-- CRCINIT sets CRC to 0xFF and changes no other register but STATUS; any other word with its OP is illegal
(44_crc.md R193). -/
def Obligations.CrcinitSetsTheInitialValue : Prop :=
  encode .crcinit = 0x40000000
  ∧ (∀ w : Word32, w.extractLsb' 24 8 = 0x40 → w ≠ 0x40000000 → decode w = .error .mustBeZeroSet)
  ∧ ∀ s : State, ∃ t, exec .crcinit s = .next t ∧ t.CRC = 0xFF ∧ succeeded s t false ∧ sameFlags s t ∧ sameB s t ∧ sameV s t
      ∧ sameW s t ∧ t.SN = s.SN ∧ noTransaction s t ∧ sameHost s t

/-- CRCBYTE folds B[BR] into CRC (44_crc.md R194). -/
def Obligations.CrcbyteFoldsOneByte : Prop :=
  ∀ (s : State) (br : BitVec 4),
    encode (.crcbyte br) = 0x41000000 ||| br.setWidth 32
    ∧ ∃ t, exec (.crcbyte br) s = .next t ∧ t.CRC = crcStep s.CRC (s.getB br) ∧ succeeded s t false ∧ sameFlags s t
        ∧ sameB s t ∧ sameV s t ∧ sameW s t ∧ t.SN = s.SN ∧ noTransaction s t ∧ sameHost s t

/-- CRC8 puts the CRC of B[BR..BR+P−1] in CRC, or raises ValidationError (44_crc.md R195). -/
def Obligations.Crc8ComputesTheCrcOfARun : Prop :=
  ∀ (s : State) (br : BitVec 4) (p : BitVec 8),
    encode (.crc8 br p) = 0x42000000 ||| (p.setWidth 32 <<< 8) ||| br.setWidth 32
    ∧ (p.toNat > 16 ∨ br.toNat + p.toNat > 16 → rejected (.crc8 br p) s .validationError)
    ∧ (p.toNat ≤ 16 → br.toNat + p.toNat ≤ 16 →
        ∃ t, exec (.crc8 br p) s = .next t
          ∧ t.CRC = crc8 ((List.range p.toNat).map fun k => s.getB (br + BitVec.ofNat 4 k))
          ∧ succeeded s t false ∧ sameFlags s t ∧ sameB s t ∧ sameV s t ∧ sameW s t ∧ t.SN = s.SN ∧ noTransaction s t
          ∧ sameHost s t)

/-- CRCVFY puts the CRC of B[BR..BR+P−1] in CRC and whether B[BR+P] equals it in FLAG; a mismatch is no error
(44_crc.md R196). -/
def Obligations.CrcvfyComparesWithTheNextByte : Prop :=
  ∀ (s : State) (br : BitVec 4) (p : BitVec 8),
    let c := crc8 ((List.range p.toNat).map fun k => s.getB (br + BitVec.ofNat 4 k))
    encode (.crcvfy br p) = 0x43000000 ||| (p.setWidth 32 <<< 8) ||| br.setWidth 32
    ∧ (p.toNat > 15 ∨ br.toNat + p.toNat + 1 > 16 → rejected (.crcvfy br p) s .validationError)
    ∧ (p.toNat ≤ 15 → br.toNat + p.toNat + 1 ≤ 16 →
        ∃ t, exec (.crcvfy br p) s = .next t ∧ t.CRC = c
          ∧ t.ST.flag = decide (c = s.getB (br + BitVec.ofNat 4 p.toNat)) ∧ t.ST.fv0 = s.ST.fv0 ∧ t.ST.fv1 = s.ST.fv1
          ∧ succeeded s t false ∧ sameB s t ∧ sameV s t ∧ sameW s t ∧ t.SN = s.SN ∧ noTransaction s t ∧ sameHost s t)

/-! ## Sensor frames -/

/-- FRMPAIR updates each of W0 and W1 whose own frame passes, reports both checks in FV0 and FV1, and raises
ChecksumError unless both pass (44_crc.md R204). -/
def Obligations.FrmpairUpdatesEachPassingWord : Prop :=
  ∀ (s : State) (br : BitVec 4),
    let ok0 := crc8 [s.getB br, s.getB (br + 1)] = s.getB (br + 2)
    let ok1 := crc8 [s.getB (br + 3), s.getB (br + 4)] = s.getB (br + 5)
    encode (.frmpair br) = 0x44000000 ||| br.setWidth 32
    ∧ (br.toNat > 10 → rejected (.frmpair br) s .validationError)
    ∧ (br.toNat ≤ 10 →
        ∃ t, exec (.frmpair br) s = .next t ∧ t.ST.fv0 = decide ok0 ∧ t.ST.fv1 = decide ok1
          ∧ t.W0.toNat = (if ok0 then (s.getB br).toNat * 256 + (s.getB (br + 1)).toNat else s.W0.toNat)
          ∧ t.W1.toNat = (if ok1 then (s.getB (br + 3)).toNat * 256 + (s.getB (br + 4)).toNat else s.W1.toNat)
          ∧ (ok0 → ok1 → succeeded s t false) ∧ (¬ok0 ∨ ¬ok1 → raised t .checksumError)
          ∧ t.ST.flag = s.ST.flag ∧ sameB s t ∧ sameV s t ∧ t.SN = s.SN ∧ t.CRC = s.CRC ∧ noTransaction s t
          ∧ sameHost s t)

/-- FRMSER assembles SN from two passing frames; where either fails SN stays and ChecksumError is raised; FV0 and FV1
report both checks (44_crc.md R205). -/
def Obligations.FrmserAssemblesTheSerialNumber : Prop :=
  ∀ (s : State) (br : BitVec 4),
    let ok0 := crc8 [s.getB br, s.getB (br + 1)] = s.getB (br + 2)
    let ok1 := crc8 [s.getB (br + 3), s.getB (br + 4)] = s.getB (br + 5)
    encode (.frmser br) = 0x45000000 ||| br.setWidth 32
    ∧ (br.toNat > 10 → rejected (.frmser br) s .validationError)
    ∧ (br.toNat ≤ 10 →
        ∃ t, exec (.frmser br) s = .next t ∧ t.ST.fv0 = decide ok0 ∧ t.ST.fv1 = decide ok1
          ∧ (ok0 → ok1 → succeeded s t false
              ∧ t.SN.toNat = (s.getB br).toNat * 16777216 + (s.getB (br + 1)).toNat * 65536
                  + (s.getB (br + 3)).toNat * 256 + (s.getB (br + 4)).toNat)
          ∧ (¬ok0 ∨ ¬ok1 → raised t .checksumError ∧ t.SN = s.SN)
          ∧ t.ST.flag = s.ST.flag ∧ sameB s t ∧ sameV s t ∧ sameW s t ∧ t.CRC = s.CRC ∧ noTransaction s t
          ∧ sameHost s t)

/-! ## Whole-machine rules -/

/-- The legal values of STATUS and of the recorded transactions are kept by every step: ERR is never 5 to 7, an error
leaves STK set and MAL clear, every recorded transaction has a legal shape (10_state.md R28, R29, R32; 20_memory.md R57,
R58, R67; 41_framer.md R110). -/
def Obligations.StepKeepsStatusAndEventsLegal : Prop := ∀ s t : State, Inv s → step s = .next t → Inv t

/-- The invariant holds after reset (70_reset_and_hazards.md R261). -/
def Obligations.ResetStatusAndEventsLegal : Prop := Inv State.reset

/-- Each register has the writers 10_state.md names and no other command changes it: B (R20), V (R21), W (R23), SN (R24),
CRC (R25). -/
def Obligations.RegistersHaveTheirNamedWriters : Prop :=
  ∀ (i : Instr) (s t : State), exec i s = .next t →
    (writesB i.mnemonic = false → sameB s t)
    ∧ (∀ j : VIndex, writesV i.mnemonic j = false → t.getV j = s.getV j)
    ∧ (i.mnemonic ≠ .frmpair → sameW s t) ∧ (i.mnemonic ≠ .frmser → t.SN = s.SN)
    ∧ (writesCrc i.mnemonic = false → t.CRC = s.CRC) ∧ sameHost s t

/-- MAL is 1 only after a decode command that succeeded (10_state.md R29); FLAG changes only by ALENTEST, ALFIRED and
CRCVFY that succeed (R30); FV0 and FV1 only by FRMPAIR and FRMSER that passed their operand checks (R31). -/
def Obligations.StatusFlagsHaveTheirNamedWriters : Prop :=
  ∀ (i : Instr) (s t : State), exec i s = .next t →
    (t.ST.mal = true → isDecode i.mnemonic = true ∧ t.ST.err = 0)
    ∧ (writesFlag i.mnemonic = false ∨ t.ST.err ≠ 0 → t.ST.flag = s.ST.flag)
    ∧ (writesFv i.mnemonic = false ∨ validationCause i s → t.ST.fv0 = s.ST.fv0 ∧ t.ST.fv1 = s.ST.fv1)

/-- STK is set by every command that raises an error and cleared only by reset and CLRST, over every step (10_state.md R32). -/
def Obligations.StickyBitRecordsErrors : Prop :=
  ∀ s t : State, step s = .next t →
    t.ST.stk =
      (match s.port with
       | .reset :: _ => false
       | .command w :: _ => if w = 0x01000000 then false else s.ST.stk || decide (t.ST.err ≠ 0)
       | _ => s.ST.stk)

/-- A command that raises an error leaves every register but STATUS as it was, but for FRMPAIR's W of a passing frame
and the FV bits of FRMPAIR and FRMSER (60_exceptions.md R236). -/
def Obligations.ErrorsArePrecise : Prop :=
  ∀ (i : Instr) (s t : State), exec i s = .next t → t.ST.err ≠ 0 →
    sameB s t ∧ sameV s t ∧ t.SN = s.SN ∧ t.CRC = s.CRC ∧ t.ST.flag = s.ST.flag
    ∧ (i.mnemonic ≠ .frmpair → sameW s t)
    ∧ (i.mnemonic = .frmpair → validationCause i s → sameW s t)
    ∧ (i.mnemonic = .frmpair → (t.ST.fv0 = false → t.W0 = s.W0) ∧ (t.ST.fv1 = false → t.W1 = s.W1))
    ∧ (writesFv i.mnemonic = false → t.ST.fv0 = s.ST.fv0 ∧ t.ST.fv1 = s.ST.fv1)

/-- ValidationError is raised in the cases of 60_exceptions.md R233 and in no other. -/
def Obligations.ValidationErrorExactlyByItsCauses : Prop :=
  ∀ (i : Instr) (s t : State), exec i s = .next t → (t.ST.err = 3 ↔ validationCause i s)

/-- BusError is raised by a framer command whose Transfer returns BusErr and by no other (60_exceptions.md R231). -/
def Obligations.BusErrorExactlyByAFailedTransfer : Prop :=
  ∀ (i : Instr) (s t : State), exec i s = .next t →
    (t.ST.err = 1 ↔ isFramer i.mnemonic = true ∧ ¬validationCause i s ∧ s.nextDraw = .busErr)

/-- ChecksumError is raised by FRMPAIR and FRMSER where either frame's CRC byte differs, and by no other command
(60_exceptions.md R232). -/
def Obligations.ChecksumErrorExactlyByAFailedFrame : Prop :=
  ∀ (i : Instr) (s t : State), exec i s = .next t →
    (t.ST.err = 2 ↔ ∃ br : BIndex, (i = .frmpair br ∨ i = .frmser br) ∧ br.toNat ≤ 10 ∧ frameFails br s)

/-- Each framer command that passes its operand checks records one transaction with its operands, whatever the result;
every other command, and a word that is no command, records none (20_memory.md R60, 41_framer.md R110). -/
def Obligations.OneTransactionPerFramerCommand : Prop :=
  (∀ (i : Instr) (s t : State), exec i s = .next t →
    (isFramer i.mnemonic = true ∧ ¬validationCause i s → ∃ e, oneTransaction s t e ∧ eventLegal e = true
        ∧ (e.result = .busErr ↔ t.ST.err = 1)
        ∧ match i with
          | .xwr sa ra n => e.sa = sa ∧ e.wr = some (ra :: (List.range n.toNat).map fun k => s.getB (BitVec.ofNat 4 k)) ∧ e.rlen = 0
          | .xrd sa ra n => e.sa = sa ∧ e.wr = some [ra] ∧ e.rlen = n.toNat
          | .xcmd sa cw => e.sa = sa ∧ e.wr = some [cw.extractLsb' 8 8, cw.extractLsb' 0 8] ∧ e.rlen = 0
          | .xrdraw sa n => e.sa = sa ∧ e.wr = none ∧ e.rlen = n.toNat
          | _ => False)
    ∧ (isFramer i.mnemonic = false ∨ validationCause i s → noTransaction s t))
  ∧ ∀ (s t : State) (w : Word32) (rest : List HostOp) (e : DecodeError),
      s.port = .command w :: rest → decode w = .error e → step s = .next t → noTransaction s t

/-! ## Host register port and reset -/

/-- A host read answers the register at its address, multi-byte registers most significant byte first and 0x00 where
reserved, and changes no register (20_memory.md R51, R53). Where the answer stands is the model's own: hostReads, log 4. -/
def Obligations.HostReadAnswersTheRegisterMap : Prop :=
  ∀ (s : State) (a : HostAddr) (rest : List HostOp), s.port = .read a :: rest →
    ∃ t v, step s = .next t ∧ t.hostReads = s.hostReads ++ [(a, v)] ∧ t.port = rest
      ∧ t.ST = s.ST ∧ sameB s t ∧ sameV s t ∧ sameWords s t ∧ noTransaction s t
      ∧ (∀ i : BIndex, a.toNat = i.toNat → v = s.getB i)
      ∧ (∀ i : VIndex, a.toNat = 16 + i.toNat → v = s.getV i)
      ∧ (a = 0x18 → v.toNat = s.W0.toNat / 256) ∧ (a = 0x19 → v.toNat = s.W0.toNat % 256)
      ∧ (a = 0x1A → v.toNat = s.W1.toNat / 256) ∧ (a = 0x1B → v.toNat = s.W1.toNat % 256)
      ∧ (a = 0x1C → v.toNat = s.SN.toNat / 16777216) ∧ (a = 0x1D → v.toNat = s.SN.toNat / 65536 % 256)
      ∧ (a = 0x1E → v.toNat = s.SN.toNat / 256 % 256) ∧ (a = 0x1F → v.toNat = s.SN.toNat % 256)
      ∧ (a = 0x20 → v = s.CRC) ∧ (a = 0x21 → v = s.ST) ∧ (0x22 ≤ a.toNat → v = 0x00)

/-- A host write changes the one read/write register at its address; at a read-only or reserved address nothing changes,
STATUS included (20_memory.md R52). -/
def Obligations.HostWriteChangesOneRegister : Prop :=
  ∀ (s : State) (a : HostAddr) (v : Byte) (rest : List HostOp), s.port = .write a v :: rest →
    ∃ t, step s = .next t
      ∧ (∀ i : BIndex, t.getB i = if a.toNat = i.toNat then v else s.getB i)
      ∧ (∀ i : VIndex, t.getV i = if a.toNat = 16 + i.toNat then v else s.getV i)
      ∧ t.CRC = (if a = 0x20 then v else s.CRC)
      ∧ sameW s t ∧ t.SN = s.SN ∧ t.ST = s.ST ∧ noTransaction s t ∧ t.port = rest ∧ t.hostReads = s.hostReads

/-- A byte written to a read/write address reads back there, and no other address reads differently (20_memory.md R50 to R52). -/
def Obligations.HostReadAfterHostWrite : Prop :=
  ∀ (s : State) (a b : HostAddr) (v : Byte),
    (s.hostWrite a v).hostRead b = if b = a ∧ (a.toNat < 0x18 ∨ a = 0x20) then v else s.hostRead b

/-- Reset, from any state, gives every register the value of 70_reset_and_hazards.md R261 and empties the event history,
after which TIMEENC raises ValidationError. -/
def Obligations.ResetSetsEveryRegister : Prop :=
  ∀ (s : State) (rest : List HostOp), s.port = .reset :: rest →
    ∃ t, step s = .next t
      ∧ (∀ i, t.getB i = 0x00) ∧ (∀ i, t.getV i = 0x00) ∧ t.W0 = 0x0000 ∧ t.W1 = 0x0000 ∧ t.SN = 0x00000000
      ∧ t.CRC = 0xFF ∧ t.ST = 0x00 ∧ t.events = []
      ∧ (∀ br, rejected (.timeenc br) t .validationError)

/-- Reset leaves what stands outside the block: the host's further operations, the Transport's coming answers, the
answers the host has had. The model's choice (log 5), from "Reset of the block does not reset the devices" (R263). -/
def Obligations.ResetKeepsWhatIsOutsideTheBlock : Prop :=
  ∀ (s t : State) (rest : List HostOp), s.port = .reset :: rest → step s = .next t →
    t.port = rest ∧ t.draws = s.draws ∧ t.drawCount = s.drawCount ∧ t.hostReads = s.hostReads
end

