-- ==== Sys2Proof/Laws/Operands.lean ====
section
/-! SUPPORT. The operand functions as integers: each narrowing is exact in the range the rules give. -/

namespace Sys2Proof.Machine

set_option Elab.async false

/-- `dec` is exact for every byte (42_bcd.md R140). -/
theorem dec_toNat (x : Byte) : (dec x).toNat = x.toNat / 16 * 10 + x.toNat % 16 := by
  have := x.isLt
  simp only [dec, BitVec.toNat_ofNat]
  omega

/-- `enc` is exact up to 99 (42_bcd.md R142). -/
theorem enc_toNat (v : Byte) (h : v.toNat ≤ 99) : (enc v).toNat = v.toNat / 10 * 16 + v.toNat % 10 := by
  simp only [enc, BitVec.toNat_ofNat]
  omega

/-- `decHour` never wraps: at most 45 (43_field_codec.md R150). -/
theorem decHour_le (b : Byte) : (decHour b).toNat ≤ 45 := by
  revert b; decide +kernel

theorem alarmSel_one : alarmSel 1 = 0x01 := rfl

theorem alarmSel_other (which : Byte) (h : which ≠ 1) : alarmSel which = 0x02 := by
  simp only [alarmSel, h, if_false]

/-- A byte folded into a running CRC enters by XOR (44_crc.md R190). -/
theorem crcStep_eq (c x : Byte) : crcStep c x = Nat.repeat crcShift 8 (c ^^^ x) := rfl

theorem crc8_nil : crc8 [] = 0xFF := rfl

/-- The second equation of R191. -/
theorem crc8_concat (xs : List Byte) (x : Byte) : crc8 (xs ++ [x]) = crcStep (crc8 xs) x := by
  simp only [crc8, List.foldl_append, List.foldl_cons, List.foldl_nil]

theorem frameFits_iff (br : BIndex) (len : Nat) : frameFits br len = true ↔ br.toNat + len ≤ 16 := by
  simp only [frameFits, decide_eq_true_eq]

theorem writeLengthOk_iff (n : BitVec 5) : writeLengthOk n = true ↔ n.toNat ≤ 15 := by
  simp only [writeLengthOk, decide_eq_true_eq]

theorem readLengthOk_iff (n : BitVec 5) : readLengthOk n = true ↔ 1 ≤ n.toNat ∧ n.toNat ≤ 16 := by
  simp only [readLengthOk, Bool.and_eq_true, decide_eq_true_eq]

theorem valueIndexOk_iff (vr : BitVec 4) : valueIndexOk vr = true ↔ vr.toNat ≤ 7 := by
  simp only [valueIndexOk, decide_eq_true_eq]

theorem verify_iff (xs : List Byte) (e : Byte) : verify xs e = true ↔ crc8 xs = e := by
  simp only [verify, beq_iff_eq]

end Sys2Proof.Machine
end

