-- ==== Sys2Proof/Laws/State.lean ====
section
/-! SUPPORT. One lemma per field per update of the state, so that no later proof unfolds a record update. -/

namespace Sys2Proof.Machine

set_option Elab.async false

/-! ## setB -/

@[simp] theorem getV_setB (s : State) (i : BIndex) (v : Byte) (j : VIndex) : (s.setB i v).getV j = s.getV j := rfl
@[simp] theorem W0_setB (s : State) (i : BIndex) (v : Byte) : (s.setB i v).W0 = s.W0 := rfl
@[simp] theorem W1_setB (s : State) (i : BIndex) (v : Byte) : (s.setB i v).W1 = s.W1 := rfl
@[simp] theorem SN_setB (s : State) (i : BIndex) (v : Byte) : (s.setB i v).SN = s.SN := rfl
@[simp] theorem CRC_setB (s : State) (i : BIndex) (v : Byte) : (s.setB i v).CRC = s.CRC := rfl
@[simp] theorem ST_setB (s : State) (i : BIndex) (v : Byte) : (s.setB i v).ST = s.ST := rfl
@[simp] theorem events_setB (s : State) (i : BIndex) (v : Byte) : (s.setB i v).events = s.events := rfl
@[simp] theorem port_setB (s : State) (i : BIndex) (v : Byte) : (s.setB i v).port = s.port := rfl
@[simp] theorem draws_setB (s : State) (i : BIndex) (v : Byte) : (s.setB i v).draws = s.draws := rfl
@[simp] theorem drawCount_setB (s : State) (i : BIndex) (v : Byte) : (s.setB i v).drawCount = s.drawCount := rfl
@[simp] theorem hostReads_setB (s : State) (i : BIndex) (v : Byte) : (s.setB i v).hostReads = s.hostReads := rfl

/-! ## setV -/

@[simp] theorem getB_setV (s : State) (i : VIndex) (v : Byte) (j : BIndex) : (s.setV i v).getB j = s.getB j := rfl
@[simp] theorem W0_setV (s : State) (i : VIndex) (v : Byte) : (s.setV i v).W0 = s.W0 := rfl
@[simp] theorem W1_setV (s : State) (i : VIndex) (v : Byte) : (s.setV i v).W1 = s.W1 := rfl
@[simp] theorem SN_setV (s : State) (i : VIndex) (v : Byte) : (s.setV i v).SN = s.SN := rfl
@[simp] theorem CRC_setV (s : State) (i : VIndex) (v : Byte) : (s.setV i v).CRC = s.CRC := rfl
@[simp] theorem ST_setV (s : State) (i : VIndex) (v : Byte) : (s.setV i v).ST = s.ST := rfl
@[simp] theorem events_setV (s : State) (i : VIndex) (v : Byte) : (s.setV i v).events = s.events := rfl
@[simp] theorem port_setV (s : State) (i : VIndex) (v : Byte) : (s.setV i v).port = s.port := rfl
@[simp] theorem draws_setV (s : State) (i : VIndex) (v : Byte) : (s.setV i v).draws = s.draws := rfl
@[simp] theorem drawCount_setV (s : State) (i : VIndex) (v : Byte) : (s.setV i v).drawCount = s.drawCount := rfl
@[simp] theorem hostReads_setV (s : State) (i : VIndex) (v : Byte) : (s.setV i v).hostReads = s.hostReads := rfl

/-! ## setW0 -/

@[simp] theorem getB_setW0 (s : State) (v : Word16) (j : BIndex) : (s.setW0 v).getB j = s.getB j := rfl
@[simp] theorem getV_setW0 (s : State) (v : Word16) (j : VIndex) : (s.setW0 v).getV j = s.getV j := rfl
@[simp] theorem W0_setW0 (s : State) (v : Word16) : (s.setW0 v).W0 = v := rfl
@[simp] theorem W1_setW0 (s : State) (v : Word16) : (s.setW0 v).W1 = s.W1 := rfl
@[simp] theorem SN_setW0 (s : State) (v : Word16) : (s.setW0 v).SN = s.SN := rfl
@[simp] theorem CRC_setW0 (s : State) (v : Word16) : (s.setW0 v).CRC = s.CRC := rfl
@[simp] theorem ST_setW0 (s : State) (v : Word16) : (s.setW0 v).ST = s.ST := rfl
@[simp] theorem events_setW0 (s : State) (v : Word16) : (s.setW0 v).events = s.events := rfl
@[simp] theorem port_setW0 (s : State) (v : Word16) : (s.setW0 v).port = s.port := rfl
@[simp] theorem draws_setW0 (s : State) (v : Word16) : (s.setW0 v).draws = s.draws := rfl
@[simp] theorem drawCount_setW0 (s : State) (v : Word16) : (s.setW0 v).drawCount = s.drawCount := rfl
@[simp] theorem hostReads_setW0 (s : State) (v : Word16) : (s.setW0 v).hostReads = s.hostReads := rfl

/-! ## setW1 -/

@[simp] theorem getB_setW1 (s : State) (v : Word16) (j : BIndex) : (s.setW1 v).getB j = s.getB j := rfl
@[simp] theorem getV_setW1 (s : State) (v : Word16) (j : VIndex) : (s.setW1 v).getV j = s.getV j := rfl
@[simp] theorem W0_setW1 (s : State) (v : Word16) : (s.setW1 v).W0 = s.W0 := rfl
@[simp] theorem W1_setW1 (s : State) (v : Word16) : (s.setW1 v).W1 = v := rfl
@[simp] theorem SN_setW1 (s : State) (v : Word16) : (s.setW1 v).SN = s.SN := rfl
@[simp] theorem CRC_setW1 (s : State) (v : Word16) : (s.setW1 v).CRC = s.CRC := rfl
@[simp] theorem ST_setW1 (s : State) (v : Word16) : (s.setW1 v).ST = s.ST := rfl
@[simp] theorem events_setW1 (s : State) (v : Word16) : (s.setW1 v).events = s.events := rfl
@[simp] theorem port_setW1 (s : State) (v : Word16) : (s.setW1 v).port = s.port := rfl
@[simp] theorem draws_setW1 (s : State) (v : Word16) : (s.setW1 v).draws = s.draws := rfl
@[simp] theorem drawCount_setW1 (s : State) (v : Word16) : (s.setW1 v).drawCount = s.drawCount := rfl
@[simp] theorem hostReads_setW1 (s : State) (v : Word16) : (s.setW1 v).hostReads = s.hostReads := rfl

/-! ## setSN -/

@[simp] theorem getB_setSN (s : State) (v : Word32) (j : BIndex) : (s.setSN v).getB j = s.getB j := rfl
@[simp] theorem getV_setSN (s : State) (v : Word32) (j : VIndex) : (s.setSN v).getV j = s.getV j := rfl
@[simp] theorem W0_setSN (s : State) (v : Word32) : (s.setSN v).W0 = s.W0 := rfl
@[simp] theorem W1_setSN (s : State) (v : Word32) : (s.setSN v).W1 = s.W1 := rfl
@[simp] theorem SN_setSN (s : State) (v : Word32) : (s.setSN v).SN = v := rfl
@[simp] theorem CRC_setSN (s : State) (v : Word32) : (s.setSN v).CRC = s.CRC := rfl
@[simp] theorem ST_setSN (s : State) (v : Word32) : (s.setSN v).ST = s.ST := rfl
@[simp] theorem events_setSN (s : State) (v : Word32) : (s.setSN v).events = s.events := rfl
@[simp] theorem port_setSN (s : State) (v : Word32) : (s.setSN v).port = s.port := rfl
@[simp] theorem draws_setSN (s : State) (v : Word32) : (s.setSN v).draws = s.draws := rfl
@[simp] theorem drawCount_setSN (s : State) (v : Word32) : (s.setSN v).drawCount = s.drawCount := rfl
@[simp] theorem hostReads_setSN (s : State) (v : Word32) : (s.setSN v).hostReads = s.hostReads := rfl

/-! ## setCRC -/

@[simp] theorem getB_setCRC (s : State) (v : Byte) (j : BIndex) : (s.setCRC v).getB j = s.getB j := rfl
@[simp] theorem getV_setCRC (s : State) (v : Byte) (j : VIndex) : (s.setCRC v).getV j = s.getV j := rfl
@[simp] theorem W0_setCRC (s : State) (v : Byte) : (s.setCRC v).W0 = s.W0 := rfl
@[simp] theorem W1_setCRC (s : State) (v : Byte) : (s.setCRC v).W1 = s.W1 := rfl
@[simp] theorem SN_setCRC (s : State) (v : Byte) : (s.setCRC v).SN = s.SN := rfl
@[simp] theorem CRC_setCRC (s : State) (v : Byte) : (s.setCRC v).CRC = v := rfl
@[simp] theorem ST_setCRC (s : State) (v : Byte) : (s.setCRC v).ST = s.ST := rfl
@[simp] theorem events_setCRC (s : State) (v : Byte) : (s.setCRC v).events = s.events := rfl
@[simp] theorem port_setCRC (s : State) (v : Byte) : (s.setCRC v).port = s.port := rfl
@[simp] theorem draws_setCRC (s : State) (v : Byte) : (s.setCRC v).draws = s.draws := rfl
@[simp] theorem drawCount_setCRC (s : State) (v : Byte) : (s.setCRC v).drawCount = s.drawCount := rfl
@[simp] theorem hostReads_setCRC (s : State) (v : Byte) : (s.setCRC v).hostReads = s.hostReads := rfl

/-! ## setST -/

@[simp] theorem getB_setST (s : State) (v : Status) (j : BIndex) : (s.setST v).getB j = s.getB j := rfl
@[simp] theorem getV_setST (s : State) (v : Status) (j : VIndex) : (s.setST v).getV j = s.getV j := rfl
@[simp] theorem W0_setST (s : State) (v : Status) : (s.setST v).W0 = s.W0 := rfl
@[simp] theorem W1_setST (s : State) (v : Status) : (s.setST v).W1 = s.W1 := rfl
@[simp] theorem SN_setST (s : State) (v : Status) : (s.setST v).SN = s.SN := rfl
@[simp] theorem CRC_setST (s : State) (v : Status) : (s.setST v).CRC = s.CRC := rfl
@[simp] theorem ST_setST (s : State) (v : Status) : (s.setST v).ST = v := rfl
@[simp] theorem events_setST (s : State) (v : Status) : (s.setST v).events = s.events := rfl
@[simp] theorem port_setST (s : State) (v : Status) : (s.setST v).port = s.port := rfl
@[simp] theorem draws_setST (s : State) (v : Status) : (s.setST v).draws = s.draws := rfl
@[simp] theorem drawCount_setST (s : State) (v : Status) : (s.setST v).drawCount = s.drawCount := rfl
@[simp] theorem hostReads_setST (s : State) (v : Status) : (s.setST v).hostReads = s.hostReads := rfl

/-! ## setMal -/

@[simp] theorem getB_setMal (s : State) (b : Bool) (j : BIndex) : (s.setMal b).getB j = s.getB j := rfl
@[simp] theorem getV_setMal (s : State) (b : Bool) (j : VIndex) : (s.setMal b).getV j = s.getV j := rfl
@[simp] theorem W0_setMal (s : State) (b : Bool) : (s.setMal b).W0 = s.W0 := rfl
@[simp] theorem W1_setMal (s : State) (b : Bool) : (s.setMal b).W1 = s.W1 := rfl
@[simp] theorem SN_setMal (s : State) (b : Bool) : (s.setMal b).SN = s.SN := rfl
@[simp] theorem CRC_setMal (s : State) (b : Bool) : (s.setMal b).CRC = s.CRC := rfl
@[simp] theorem ST_setMal (s : State) (b : Bool) : (s.setMal b).ST = s.ST.setMal b := rfl
@[simp] theorem events_setMal (s : State) (b : Bool) : (s.setMal b).events = s.events := rfl
@[simp] theorem port_setMal (s : State) (b : Bool) : (s.setMal b).port = s.port := rfl
@[simp] theorem draws_setMal (s : State) (b : Bool) : (s.setMal b).draws = s.draws := rfl
@[simp] theorem drawCount_setMal (s : State) (b : Bool) : (s.setMal b).drawCount = s.drawCount := rfl
@[simp] theorem hostReads_setMal (s : State) (b : Bool) : (s.setMal b).hostReads = s.hostReads := rfl

/-! ## setFlag -/

@[simp] theorem getB_setFlag (s : State) (b : Bool) (j : BIndex) : (s.setFlag b).getB j = s.getB j := rfl
@[simp] theorem getV_setFlag (s : State) (b : Bool) (j : VIndex) : (s.setFlag b).getV j = s.getV j := rfl
@[simp] theorem W0_setFlag (s : State) (b : Bool) : (s.setFlag b).W0 = s.W0 := rfl
@[simp] theorem W1_setFlag (s : State) (b : Bool) : (s.setFlag b).W1 = s.W1 := rfl
@[simp] theorem SN_setFlag (s : State) (b : Bool) : (s.setFlag b).SN = s.SN := rfl
@[simp] theorem CRC_setFlag (s : State) (b : Bool) : (s.setFlag b).CRC = s.CRC := rfl
@[simp] theorem ST_setFlag (s : State) (b : Bool) : (s.setFlag b).ST = s.ST.setFlag b := rfl
@[simp] theorem events_setFlag (s : State) (b : Bool) : (s.setFlag b).events = s.events := rfl
@[simp] theorem port_setFlag (s : State) (b : Bool) : (s.setFlag b).port = s.port := rfl
@[simp] theorem draws_setFlag (s : State) (b : Bool) : (s.setFlag b).draws = s.draws := rfl
@[simp] theorem drawCount_setFlag (s : State) (b : Bool) : (s.setFlag b).drawCount = s.drawCount := rfl
@[simp] theorem hostReads_setFlag (s : State) (b : Bool) : (s.setFlag b).hostReads = s.hostReads := rfl

/-! ## setFrameValid -/

@[simp] theorem getB_setFrameValid (s : State) (b0 b1 : Bool) (j : BIndex) : (s.setFrameValid b0 b1).getB j = s.getB j := rfl
@[simp] theorem getV_setFrameValid (s : State) (b0 b1 : Bool) (j : VIndex) : (s.setFrameValid b0 b1).getV j = s.getV j := rfl
@[simp] theorem W0_setFrameValid (s : State) (b0 b1 : Bool) : (s.setFrameValid b0 b1).W0 = s.W0 := rfl
@[simp] theorem W1_setFrameValid (s : State) (b0 b1 : Bool) : (s.setFrameValid b0 b1).W1 = s.W1 := rfl
@[simp] theorem SN_setFrameValid (s : State) (b0 b1 : Bool) : (s.setFrameValid b0 b1).SN = s.SN := rfl
@[simp] theorem CRC_setFrameValid (s : State) (b0 b1 : Bool) : (s.setFrameValid b0 b1).CRC = s.CRC := rfl
@[simp] theorem ST_setFrameValid (s : State) (b0 b1 : Bool) : (s.setFrameValid b0 b1).ST = (s.ST.setFv0 b0).setFv1 b1 := rfl
@[simp] theorem events_setFrameValid (s : State) (b0 b1 : Bool) : (s.setFrameValid b0 b1).events = s.events := rfl
@[simp] theorem port_setFrameValid (s : State) (b0 b1 : Bool) : (s.setFrameValid b0 b1).port = s.port := rfl
@[simp] theorem draws_setFrameValid (s : State) (b0 b1 : Bool) : (s.setFrameValid b0 b1).draws = s.draws := rfl
@[simp] theorem drawCount_setFrameValid (s : State) (b0 b1 : Bool) : (s.setFrameValid b0 b1).drawCount = s.drawCount := rfl
@[simp] theorem hostReads_setFrameValid (s : State) (b0 b1 : Bool) : (s.setFrameValid b0 b1).hostReads = s.hostReads := rfl

/-! ## setStk -/

@[simp] theorem getB_setStk (s : State) (b : Bool) (j : BIndex) : (s.setStk b).getB j = s.getB j := rfl
@[simp] theorem getV_setStk (s : State) (b : Bool) (j : VIndex) : (s.setStk b).getV j = s.getV j := rfl
@[simp] theorem W0_setStk (s : State) (b : Bool) : (s.setStk b).W0 = s.W0 := rfl
@[simp] theorem W1_setStk (s : State) (b : Bool) : (s.setStk b).W1 = s.W1 := rfl
@[simp] theorem SN_setStk (s : State) (b : Bool) : (s.setStk b).SN = s.SN := rfl
@[simp] theorem CRC_setStk (s : State) (b : Bool) : (s.setStk b).CRC = s.CRC := rfl
@[simp] theorem ST_setStk (s : State) (b : Bool) : (s.setStk b).ST = s.ST.setStk b := rfl
@[simp] theorem events_setStk (s : State) (b : Bool) : (s.setStk b).events = s.events := rfl
@[simp] theorem port_setStk (s : State) (b : Bool) : (s.setStk b).port = s.port := rfl
@[simp] theorem draws_setStk (s : State) (b : Bool) : (s.setStk b).draws = s.draws := rfl
@[simp] theorem drawCount_setStk (s : State) (b : Bool) : (s.setStk b).drawCount = s.drawCount := rfl
@[simp] theorem hostReads_setStk (s : State) (b : Bool) : (s.setStk b).hostReads = s.hostReads := rfl

/-! ## prologue -/

@[simp] theorem getB_prologue (s : State) (j : BIndex) : s.prologue.getB j = s.getB j := rfl
@[simp] theorem getV_prologue (s : State) (j : VIndex) : s.prologue.getV j = s.getV j := rfl
@[simp] theorem W0_prologue (s : State) : s.prologue.W0 = s.W0 := rfl
@[simp] theorem W1_prologue (s : State) : s.prologue.W1 = s.W1 := rfl
@[simp] theorem SN_prologue (s : State) : s.prologue.SN = s.SN := rfl
@[simp] theorem CRC_prologue (s : State) : s.prologue.CRC = s.CRC := rfl
@[simp] theorem ST_prologue (s : State) : s.prologue.ST = (s.ST.setErr 0).setMal false := rfl
@[simp] theorem events_prologue (s : State) : s.prologue.events = s.events := rfl
@[simp] theorem port_prologue (s : State) : s.prologue.port = s.port := rfl
@[simp] theorem draws_prologue (s : State) : s.prologue.draws = s.draws := rfl
@[simp] theorem drawCount_prologue (s : State) : s.prologue.drawCount = s.drawCount := rfl
@[simp] theorem hostReads_prologue (s : State) : s.prologue.hostReads = s.hostReads := rfl

/-! ## raise -/

@[simp] theorem getB_raise (s : State) (e : ErrorClass) (j : BIndex) : (s.raise e).getB j = s.getB j := rfl
@[simp] theorem getV_raise (s : State) (e : ErrorClass) (j : VIndex) : (s.raise e).getV j = s.getV j := rfl
@[simp] theorem W0_raise (s : State) (e : ErrorClass) : (s.raise e).W0 = s.W0 := rfl
@[simp] theorem W1_raise (s : State) (e : ErrorClass) : (s.raise e).W1 = s.W1 := rfl
@[simp] theorem SN_raise (s : State) (e : ErrorClass) : (s.raise e).SN = s.SN := rfl
@[simp] theorem CRC_raise (s : State) (e : ErrorClass) : (s.raise e).CRC = s.CRC := rfl
@[simp] theorem ST_raise (s : State) (e : ErrorClass) : (s.raise e).ST = (s.ST.setErr e.code).setStk true := rfl
@[simp] theorem events_raise (s : State) (e : ErrorClass) : (s.raise e).events = s.events := rfl
@[simp] theorem port_raise (s : State) (e : ErrorClass) : (s.raise e).port = s.port := rfl
@[simp] theorem draws_raise (s : State) (e : ErrorClass) : (s.raise e).draws = s.draws := rfl
@[simp] theorem drawCount_raise (s : State) (e : ErrorClass) : (s.raise e).drawCount = s.drawCount := rfl
@[simp] theorem hostReads_raise (s : State) (e : ErrorClass) : (s.raise e).hostReads = s.hostReads := rfl

/-! ## transferred -/

@[simp] theorem getB_transferred (s : State) (sa : SlaveAddr) (wr : Option (List Byte)) (rlen : Nat) (j : BIndex) : (s.transferred sa wr rlen).getB j = s.getB j := rfl
@[simp] theorem getV_transferred (s : State) (sa : SlaveAddr) (wr : Option (List Byte)) (rlen : Nat) (j : VIndex) : (s.transferred sa wr rlen).getV j = s.getV j := rfl
@[simp] theorem W0_transferred (s : State) (sa : SlaveAddr) (wr : Option (List Byte)) (rlen : Nat) :
    (s.transferred sa wr rlen).W0 = s.W0 := rfl
@[simp] theorem W1_transferred (s : State) (sa : SlaveAddr) (wr : Option (List Byte)) (rlen : Nat) :
    (s.transferred sa wr rlen).W1 = s.W1 := rfl
@[simp] theorem SN_transferred (s : State) (sa : SlaveAddr) (wr : Option (List Byte)) (rlen : Nat) :
    (s.transferred sa wr rlen).SN = s.SN := rfl
@[simp] theorem CRC_transferred (s : State) (sa : SlaveAddr) (wr : Option (List Byte)) (rlen : Nat) :
    (s.transferred sa wr rlen).CRC = s.CRC := rfl
@[simp] theorem ST_transferred (s : State) (sa : SlaveAddr) (wr : Option (List Byte)) (rlen : Nat) :
    (s.transferred sa wr rlen).ST = s.ST := rfl
@[simp] theorem events_transferred (s : State) (sa : SlaveAddr) (wr : Option (List Byte)) (rlen : Nat) :
    (s.transferred sa wr rlen).events = s.events ++ [{ sa := sa, wr := wr, rlen := rlen, result := s.transferResult rlen }] := rfl
@[simp] theorem port_transferred (s : State) (sa : SlaveAddr) (wr : Option (List Byte)) (rlen : Nat) :
    (s.transferred sa wr rlen).port = s.port := rfl
@[simp] theorem draws_transferred (s : State) (sa : SlaveAddr) (wr : Option (List Byte)) (rlen : Nat) :
    (s.transferred sa wr rlen).draws = s.draws.tail := rfl
@[simp] theorem drawCount_transferred (s : State) (sa : SlaveAddr) (wr : Option (List Byte)) (rlen : Nat) :
    (s.transferred sa wr rlen).drawCount = s.drawCount + 1 := rfl
@[simp] theorem hostReads_transferred (s : State) (sa : SlaveAddr) (wr : Option (List Byte)) (rlen : Nat) :
    (s.transferred sa wr rlen).hostReads = s.hostReads := rfl

/-! ## withFetchWord, resetBlock -/

@[simp] theorem W0_withFetchWord (s : State) (nbits w : Nat) :
    (s.withFetchWord nbits w).W0 = s.W0 := rfl
@[simp] theorem W1_withFetchWord (s : State) (nbits w : Nat) :
    (s.withFetchWord nbits w).W1 = s.W1 := rfl
@[simp] theorem SN_withFetchWord (s : State) (nbits w : Nat) :
    (s.withFetchWord nbits w).SN = s.SN := rfl
@[simp] theorem CRC_withFetchWord (s : State) (nbits w : Nat) :
    (s.withFetchWord nbits w).CRC = s.CRC := rfl
@[simp] theorem ST_withFetchWord (s : State) (nbits w : Nat) :
    (s.withFetchWord nbits w).ST = s.ST := rfl
@[simp] theorem events_withFetchWord (s : State) (nbits w : Nat) :
    (s.withFetchWord nbits w).events = s.events := rfl
@[simp] theorem port_withFetchWord (s : State) (nbits w : Nat) :
    (s.withFetchWord nbits w).port = .command (BitVec.ofNat 32 (w % 2 ^ nbits)) :: s.port := rfl
@[simp] theorem draws_withFetchWord (s : State) (nbits w : Nat) :
    (s.withFetchWord nbits w).draws = s.draws := rfl
@[simp] theorem drawCount_withFetchWord (s : State) (nbits w : Nat) :
    (s.withFetchWord nbits w).drawCount = s.drawCount := rfl
@[simp] theorem hostReads_withFetchWord (s : State) (nbits w : Nat) :
    (s.withFetchWord nbits w).hostReads = s.hostReads := rfl
@[simp] theorem W0_resetBlock (s : State) : s.resetBlock.W0 = State.reset.W0 := rfl
@[simp] theorem W1_resetBlock (s : State) : s.resetBlock.W1 = State.reset.W1 := rfl
@[simp] theorem SN_resetBlock (s : State) : s.resetBlock.SN = State.reset.SN := rfl
@[simp] theorem CRC_resetBlock (s : State) : s.resetBlock.CRC = State.reset.CRC := rfl
@[simp] theorem ST_resetBlock (s : State) : s.resetBlock.ST = State.reset.ST := rfl
@[simp] theorem events_resetBlock (s : State) : s.resetBlock.events = State.reset.events := rfl
@[simp] theorem port_resetBlock (s : State) : s.resetBlock.port = s.port := rfl
@[simp] theorem draws_resetBlock (s : State) : s.resetBlock.draws = s.draws := rfl
@[simp] theorem drawCount_resetBlock (s : State) : s.resetBlock.drawCount = s.drawCount := rfl
@[simp] theorem hostReads_resetBlock (s : State) : s.resetBlock.hostReads = s.hostReads := rfl
@[simp] theorem getB_resetBlock (s : State) (j : BIndex) : s.resetBlock.getB j = State.reset.getB j := rfl
@[simp] theorem getV_resetBlock (s : State) (j : VIndex) : s.resetBlock.getV j = State.reset.getV j := rfl

/-! ## A register read after a register write -/

@[simp] theorem getB_setB (s : State) (i : BIndex) (v : Byte) (j : BIndex) :
    (s.setB i v).getB j = if j = i then v else s.getB j := by
  simp only [State.setB, State.getB, Vector.getElem_set, BitVec.toNat_inj, eq_comm]

@[simp] theorem getV_setV (s : State) (i : VIndex) (v : Byte) (j : VIndex) :
    (s.setV i v).getV j = if j = i then v else s.getV j := by
  simp only [State.setV, State.getV, Vector.getElem_set, BitVec.toNat_inj, eq_comm]

/-- The Transport's next answer depends on the answers listed and the count of those drawn, on nothing else. -/
theorem nextDraw_congr {s t : State} (h : t.draws = s.draws) (hc : t.drawCount = s.drawCount) :
    t.nextDraw = s.nextDraw := by
  simp only [State.nextDraw, h, hc]

theorem transferResult_congr {s t : State} (h : t.draws = s.draws) (hc : t.drawCount = s.drawCount) (rlen : Nat) :
    t.transferResult rlen = s.transferResult rlen := by
  simp only [State.transferResult, nextDraw_congr h hc]

@[simp] theorem nextDraw_prologue (s : State) : s.prologue.nextDraw = s.nextDraw := rfl
@[simp] theorem transferResult_prologue (s : State) (rlen : Nat) :
    s.prologue.transferResult rlen = s.transferResult rlen := rfl

end Sys2Proof.Machine
end

