-- ==== Sys2Proof/Laws/Status.lean ====
section
/-! SUPPORT. Each field of STATUS read after each field is written (10_state.md R27). -/

namespace Sys2Proof.Machine

set_option Elab.async false

/-- Every field after `setErr`. -/
theorem Status.fields_setErr (st : Status) (x : BitVec 3) :
    Status.err (Status.setErr st x) = x ∧ Status.mal (Status.setErr st x) = Status.mal st
    ∧ Status.flag (Status.setErr st x) = Status.flag st ∧ Status.fv0 (Status.setErr st x) = Status.fv0 st
    ∧ Status.fv1 (Status.setErr st x) = Status.fv1 st ∧ Status.stk (Status.setErr st x) = Status.stk st := by
  revert st x; decide +kernel

@[simp] theorem Status.err_setErr (st : Status) (x : BitVec 3) :
    Status.err (Status.setErr st x) = x := (Status.fields_setErr st x).1
@[simp] theorem Status.mal_setErr (st : Status) (x : BitVec 3) :
    Status.mal (Status.setErr st x) = Status.mal st := (Status.fields_setErr st x).2.1
@[simp] theorem Status.flag_setErr (st : Status) (x : BitVec 3) :
    Status.flag (Status.setErr st x) = Status.flag st := (Status.fields_setErr st x).2.2.1
@[simp] theorem Status.fv0_setErr (st : Status) (x : BitVec 3) :
    Status.fv0 (Status.setErr st x) = Status.fv0 st := (Status.fields_setErr st x).2.2.2.1
@[simp] theorem Status.fv1_setErr (st : Status) (x : BitVec 3) :
    Status.fv1 (Status.setErr st x) = Status.fv1 st := (Status.fields_setErr st x).2.2.2.2.1
@[simp] theorem Status.stk_setErr (st : Status) (x : BitVec 3) :
    Status.stk (Status.setErr st x) = Status.stk st := (Status.fields_setErr st x).2.2.2.2.2

/-- Every field after `setMal`. -/
theorem Status.fields_setMal (st : Status) (x : Bool) :
    Status.err (Status.setMal st x) = Status.err st ∧ Status.mal (Status.setMal st x) = x
    ∧ Status.flag (Status.setMal st x) = Status.flag st ∧ Status.fv0 (Status.setMal st x) = Status.fv0 st
    ∧ Status.fv1 (Status.setMal st x) = Status.fv1 st ∧ Status.stk (Status.setMal st x) = Status.stk st := by
  revert st x; decide +kernel

@[simp] theorem Status.err_setMal (st : Status) (x : Bool) :
    Status.err (Status.setMal st x) = Status.err st := (Status.fields_setMal st x).1
@[simp] theorem Status.mal_setMal (st : Status) (x : Bool) :
    Status.mal (Status.setMal st x) = x := (Status.fields_setMal st x).2.1
@[simp] theorem Status.flag_setMal (st : Status) (x : Bool) :
    Status.flag (Status.setMal st x) = Status.flag st := (Status.fields_setMal st x).2.2.1
@[simp] theorem Status.fv0_setMal (st : Status) (x : Bool) :
    Status.fv0 (Status.setMal st x) = Status.fv0 st := (Status.fields_setMal st x).2.2.2.1
@[simp] theorem Status.fv1_setMal (st : Status) (x : Bool) :
    Status.fv1 (Status.setMal st x) = Status.fv1 st := (Status.fields_setMal st x).2.2.2.2.1
@[simp] theorem Status.stk_setMal (st : Status) (x : Bool) :
    Status.stk (Status.setMal st x) = Status.stk st := (Status.fields_setMal st x).2.2.2.2.2

/-- Every field after `setFlag`. -/
theorem Status.fields_setFlag (st : Status) (x : Bool) :
    Status.err (Status.setFlag st x) = Status.err st ∧ Status.mal (Status.setFlag st x) = Status.mal st
    ∧ Status.flag (Status.setFlag st x) = x ∧ Status.fv0 (Status.setFlag st x) = Status.fv0 st
    ∧ Status.fv1 (Status.setFlag st x) = Status.fv1 st ∧ Status.stk (Status.setFlag st x) = Status.stk st := by
  revert st x; decide +kernel

@[simp] theorem Status.err_setFlag (st : Status) (x : Bool) :
    Status.err (Status.setFlag st x) = Status.err st := (Status.fields_setFlag st x).1
@[simp] theorem Status.mal_setFlag (st : Status) (x : Bool) :
    Status.mal (Status.setFlag st x) = Status.mal st := (Status.fields_setFlag st x).2.1
@[simp] theorem Status.flag_setFlag (st : Status) (x : Bool) :
    Status.flag (Status.setFlag st x) = x := (Status.fields_setFlag st x).2.2.1
@[simp] theorem Status.fv0_setFlag (st : Status) (x : Bool) :
    Status.fv0 (Status.setFlag st x) = Status.fv0 st := (Status.fields_setFlag st x).2.2.2.1
@[simp] theorem Status.fv1_setFlag (st : Status) (x : Bool) :
    Status.fv1 (Status.setFlag st x) = Status.fv1 st := (Status.fields_setFlag st x).2.2.2.2.1
@[simp] theorem Status.stk_setFlag (st : Status) (x : Bool) :
    Status.stk (Status.setFlag st x) = Status.stk st := (Status.fields_setFlag st x).2.2.2.2.2

/-- Every field after `setFv0`. -/
theorem Status.fields_setFv0 (st : Status) (x : Bool) :
    Status.err (Status.setFv0 st x) = Status.err st ∧ Status.mal (Status.setFv0 st x) = Status.mal st
    ∧ Status.flag (Status.setFv0 st x) = Status.flag st ∧ Status.fv0 (Status.setFv0 st x) = x
    ∧ Status.fv1 (Status.setFv0 st x) = Status.fv1 st ∧ Status.stk (Status.setFv0 st x) = Status.stk st := by
  revert st x; decide +kernel

@[simp] theorem Status.err_setFv0 (st : Status) (x : Bool) :
    Status.err (Status.setFv0 st x) = Status.err st := (Status.fields_setFv0 st x).1
@[simp] theorem Status.mal_setFv0 (st : Status) (x : Bool) :
    Status.mal (Status.setFv0 st x) = Status.mal st := (Status.fields_setFv0 st x).2.1
@[simp] theorem Status.flag_setFv0 (st : Status) (x : Bool) :
    Status.flag (Status.setFv0 st x) = Status.flag st := (Status.fields_setFv0 st x).2.2.1
@[simp] theorem Status.fv0_setFv0 (st : Status) (x : Bool) :
    Status.fv0 (Status.setFv0 st x) = x := (Status.fields_setFv0 st x).2.2.2.1
@[simp] theorem Status.fv1_setFv0 (st : Status) (x : Bool) :
    Status.fv1 (Status.setFv0 st x) = Status.fv1 st := (Status.fields_setFv0 st x).2.2.2.2.1
@[simp] theorem Status.stk_setFv0 (st : Status) (x : Bool) :
    Status.stk (Status.setFv0 st x) = Status.stk st := (Status.fields_setFv0 st x).2.2.2.2.2

/-- Every field after `setFv1`. -/
theorem Status.fields_setFv1 (st : Status) (x : Bool) :
    Status.err (Status.setFv1 st x) = Status.err st ∧ Status.mal (Status.setFv1 st x) = Status.mal st
    ∧ Status.flag (Status.setFv1 st x) = Status.flag st ∧ Status.fv0 (Status.setFv1 st x) = Status.fv0 st
    ∧ Status.fv1 (Status.setFv1 st x) = x ∧ Status.stk (Status.setFv1 st x) = Status.stk st := by
  revert st x; decide +kernel

@[simp] theorem Status.err_setFv1 (st : Status) (x : Bool) :
    Status.err (Status.setFv1 st x) = Status.err st := (Status.fields_setFv1 st x).1
@[simp] theorem Status.mal_setFv1 (st : Status) (x : Bool) :
    Status.mal (Status.setFv1 st x) = Status.mal st := (Status.fields_setFv1 st x).2.1
@[simp] theorem Status.flag_setFv1 (st : Status) (x : Bool) :
    Status.flag (Status.setFv1 st x) = Status.flag st := (Status.fields_setFv1 st x).2.2.1
@[simp] theorem Status.fv0_setFv1 (st : Status) (x : Bool) :
    Status.fv0 (Status.setFv1 st x) = Status.fv0 st := (Status.fields_setFv1 st x).2.2.2.1
@[simp] theorem Status.fv1_setFv1 (st : Status) (x : Bool) :
    Status.fv1 (Status.setFv1 st x) = x := (Status.fields_setFv1 st x).2.2.2.2.1
@[simp] theorem Status.stk_setFv1 (st : Status) (x : Bool) :
    Status.stk (Status.setFv1 st x) = Status.stk st := (Status.fields_setFv1 st x).2.2.2.2.2

/-- Every field after `setStk`. -/
theorem Status.fields_setStk (st : Status) (x : Bool) :
    Status.err (Status.setStk st x) = Status.err st ∧ Status.mal (Status.setStk st x) = Status.mal st
    ∧ Status.flag (Status.setStk st x) = Status.flag st ∧ Status.fv0 (Status.setStk st x) = Status.fv0 st
    ∧ Status.fv1 (Status.setStk st x) = Status.fv1 st ∧ Status.stk (Status.setStk st x) = x := by
  revert st x; decide +kernel

@[simp] theorem Status.err_setStk (st : Status) (x : Bool) :
    Status.err (Status.setStk st x) = Status.err st := (Status.fields_setStk st x).1
@[simp] theorem Status.mal_setStk (st : Status) (x : Bool) :
    Status.mal (Status.setStk st x) = Status.mal st := (Status.fields_setStk st x).2.1
@[simp] theorem Status.flag_setStk (st : Status) (x : Bool) :
    Status.flag (Status.setStk st x) = Status.flag st := (Status.fields_setStk st x).2.2.1
@[simp] theorem Status.fv0_setStk (st : Status) (x : Bool) :
    Status.fv0 (Status.setStk st x) = Status.fv0 st := (Status.fields_setStk st x).2.2.2.1
@[simp] theorem Status.fv1_setStk (st : Status) (x : Bool) :
    Status.fv1 (Status.setStk st x) = Status.fv1 st := (Status.fields_setStk st x).2.2.2.2.1
@[simp] theorem Status.stk_setStk (st : Status) (x : Bool) :
    Status.stk (Status.setStk st x) = x := (Status.fields_setStk st x).2.2.2.2.2

/-- STATUS is its six fields. -/
theorem Status.eq_of_fields {a b : Status} (h0 : Status.err a = Status.err b) (h1 : Status.mal a = Status.mal b)
    (h2 : Status.flag a = Status.flag b) (h3 : Status.fv0 a = Status.fv0 b) (h4 : Status.fv1 a = Status.fv1 b)
    (h5 : Status.stk a = Status.stk b) : a = b := by
  simp only [Status.err, Status.mal, Status.flag, Status.fv0, Status.fv1, Status.stk] at *
  have e (k : Nat) (hk : k < 3) : a.getLsbD k = b.getLsbD k := by
    have := congrArg (fun v => BitVec.getLsbD v k) h0
    simpa [BitVec.getLsbD_extractLsb', hk] using this
  apply BitVec.eq_of_getLsbD_eq
  intro k hk
  have : k < 3 ∨ k = 3 ∨ k = 4 ∨ k = 5 ∨ k = 6 ∨ k = 7 := by omega
  rcases this with h | rfl | rfl | rfl | rfl | rfl
  · exact e k h
  all_goals assumption

end Sys2Proof.Machine
end

