-- ==== Sys2Proof/Laws/Ops.lean ====
section
/-! SUPPORT. What each shared operation of Machine/Ops.lean can do, said once. -/

namespace Sys2Proof.Machine

set_option Elab.async false

/-! ## The execution cycle and errors -/

/-- A command always ends in a next state: its body run after the prologue. -/
theorem command_eq (body : State → State) (s : State) : command body s = .next (body s.prologue) := rfl

theorem command_next {body : State → State} {s t : State} (h : command body s = .next t) : t = body s.prologue := by
  simpa only [command_eq, Host.Outcome.next.injEq, eq_comm] using h

/-- A checked command either raises ValidationError or does its rule. -/
theorem checked_cases (s : State) (ok : Bool) (body : State) :
    (ok = true ∧ s.checked ok body = body) ∨ (ok = false ∧ s.checked ok body = s.raise .validationError) := by
  cases ok
  · exact .inr ⟨rfl, rfl⟩
  · exact .inl ⟨rfl, rfl⟩

@[simp] theorem checked_true (s body : State) : s.checked true body = body := rfl
@[simp] theorem checked_false (s body : State) : s.checked false body = s.raise .validationError := rfl

/-- A command on frames ends with its rule's state, or raises ChecksumError. -/
theorem acceptedOr_cases (s : State) (ok : Bool) (body : State) :
    (ok = true ∧ s.acceptedOr ok body = body) ∨ (ok = false ∧ s.acceptedOr ok body = s.raise .checksumError) := by
  cases ok
  · exact .inr ⟨rfl, rfl⟩
  · exact .inl ⟨rfl, rfl⟩

@[simp] theorem acceptedOr_true (s body : State) : s.acceptedOr true body = body := rfl
@[simp] theorem acceptedOr_false (s body : State) : s.acceptedOr false body = s.raise .checksumError := rfl

/-! ## Runs of B registers -/

@[simp] theorem bytesFrom_length (s : State) (a : BIndex) (n : Nat) : (s.bytesFrom a n).length = n := by
  induction n generalizing a with
  | zero => rfl
  | succ n ih => simp only [State.bytesFrom, List.length_cons, ih]

/-- Byte k of a run is `B[a + k]`. -/
theorem bytesFrom_getElem (s : State) (a : BIndex) (n k : Nat) (h : k < (s.bytesFrom a n).length) :
    (s.bytesFrom a n)[k] = s.getB (a + BitVec.ofNat 4 k) := by
  induction n generalizing a k with
  | zero => simp only [bytesFrom_length, Nat.not_lt_zero] at h
  | succ n ih =>
    cases k with
    | zero => simp only [State.bytesFrom, List.getElem_cons_zero, BitVec.ofNat_eq_ofNat, BitVec.add_zero]
    | succ k =>
      simp only [State.bytesFrom, List.getElem_cons_succ, ih, BitVec.ofNat_add, BitVec.add_assoc]
      rw [BitVec.add_comm (1 : BitVec 4)]
      rfl

/-- Reads of the same B registers give the same run. -/
theorem bytesFrom_congr {s t : State} (h : ∀ i, t.getB i = s.getB i) (a : BIndex) (n : Nat) :
    t.bytesFrom a n = s.bytesFrom a n := by
  induction n generalizing a with
  | zero => rfl
  | succ n ih => simp only [State.bytesFrom, h, ih]

@[simp] theorem bytesFrom_prologue (s : State) (a : BIndex) (n : Nat) : s.prologue.bytesFrom a n = s.bytesFrom a n :=
  bytesFrom_congr (s := s) (t := s.prologue) (fun _ => rfl) a n

/-- A run of writes leaves everything but B as it was. -/
theorem writeBytes_frame (s : State) (a : BIndex) (xs : List Byte) :
    (s.writeBytes a xs).V = s.V ∧ (s.writeBytes a xs).W0 = s.W0 ∧ (s.writeBytes a xs).W1 = s.W1
      ∧ (s.writeBytes a xs).SN = s.SN ∧ (s.writeBytes a xs).CRC = s.CRC ∧ (s.writeBytes a xs).ST = s.ST
      ∧ (s.writeBytes a xs).events = s.events ∧ (s.writeBytes a xs).port = s.port
      ∧ (s.writeBytes a xs).draws = s.draws ∧ (s.writeBytes a xs).drawCount = s.drawCount
      ∧ (s.writeBytes a xs).hostReads = s.hostReads := by
  induction xs generalizing s a with
  | nil => exact ⟨rfl, rfl, rfl, rfl, rfl, rfl, rfl, rfl, rfl, rfl, rfl⟩
  | cons x xs ih => exact ih (s.setB a x) (a + 1)

@[simp] theorem getV_writeBytes (s : State) (a : BIndex) (xs : List Byte) (j : VIndex) :
    (s.writeBytes a xs).getV j = s.getV j := by
  simp only [State.getV, (writeBytes_frame s a xs).1]

@[simp] theorem W0_writeBytes (s : State) (a : BIndex) (xs : List Byte) : (s.writeBytes a xs).W0 = s.W0 :=
  (writeBytes_frame s a xs).2.1
@[simp] theorem W1_writeBytes (s : State) (a : BIndex) (xs : List Byte) : (s.writeBytes a xs).W1 = s.W1 :=
  (writeBytes_frame s a xs).2.2.1
@[simp] theorem SN_writeBytes (s : State) (a : BIndex) (xs : List Byte) : (s.writeBytes a xs).SN = s.SN :=
  (writeBytes_frame s a xs).2.2.2.1
@[simp] theorem CRC_writeBytes (s : State) (a : BIndex) (xs : List Byte) : (s.writeBytes a xs).CRC = s.CRC :=
  (writeBytes_frame s a xs).2.2.2.2.1
@[simp] theorem ST_writeBytes (s : State) (a : BIndex) (xs : List Byte) : (s.writeBytes a xs).ST = s.ST :=
  (writeBytes_frame s a xs).2.2.2.2.2.1
@[simp] theorem events_writeBytes (s : State) (a : BIndex) (xs : List Byte) : (s.writeBytes a xs).events = s.events :=
  (writeBytes_frame s a xs).2.2.2.2.2.2.1
@[simp] theorem port_writeBytes (s : State) (a : BIndex) (xs : List Byte) : (s.writeBytes a xs).port = s.port :=
  (writeBytes_frame s a xs).2.2.2.2.2.2.2.1
@[simp] theorem draws_writeBytes (s : State) (a : BIndex) (xs : List Byte) : (s.writeBytes a xs).draws = s.draws :=
  (writeBytes_frame s a xs).2.2.2.2.2.2.2.2.1
@[simp] theorem drawCount_writeBytes (s : State) (a : BIndex) (xs : List Byte) :
    (s.writeBytes a xs).drawCount = s.drawCount :=
  (writeBytes_frame s a xs).2.2.2.2.2.2.2.2.2.1
@[simp] theorem hostReads_writeBytes (s : State) (a : BIndex) (xs : List Byte) :
    (s.writeBytes a xs).hostReads = s.hostReads :=
  (writeBytes_frame s a xs).2.2.2.2.2.2.2.2.2.2

/-- A run of writes of at most 16 bytes: register j reads the byte at its distance from the start, or as before. -/
theorem getB_writeBytes (s : State) (a : BIndex) (xs : List Byte) (hlen : xs.length ≤ 16) (j : BIndex) :
    (s.writeBytes a xs).getB j = if h : (j - a).toNat < xs.length then xs[(j - a).toNat] else s.getB j := by
  induction xs generalizing s a with
  | nil => simp only [State.writeBytes, List.length_nil, Nat.not_lt_zero, ↓reduceDIte]
  | cons x xs ih =>
    have hl : xs.length ≤ 15 := by rw [List.length_cons] at hlen; omega
    rw [State.writeBytes, ih _ _ (by omega), getB_setB]
    by_cases hj : j = a
    · subst hj
      have h1 : (j - (j + 1)).toNat = 15 := by
        rw [show j - (j + 1) = 15#4 by bv_omega]; rfl
      rw [dif_neg (by omega), if_pos rfl, dif_pos (by simp)]
      simp
    · have h1 : (j - a).toNat = (j - (a + 1)).toNat + 1 := by bv_omega
      simp only [hj, if_false, h1, List.length_cons, Nat.add_lt_add_iff_right, List.getElem_cons_succ]

/-! ## Transfer -/

/-- The result of a transaction: a bus error, or exactly as many bytes as asked for (20_memory.md R58). -/
theorem answerFor_cases (d : Draw) (rlen : Nat) (h : rlen ≤ 16) :
    answerFor d rlen = .busErr ∨ ∃ rd, answerFor d rlen = .ok rd ∧ rd.length = rlen := by
  cases d with
  | busErr => exact .inl rfl
  | ok bytes =>
    refine .inr ⟨_, rfl, ?_⟩
    simp only [List.length_take, Vector.length_toList]
    omega

/-- A framer's transaction either fails, writing STATUS alone, or succeeds, writing its bytes to B0 upward; it records
one event either way (41_framer.md R110, R112). -/
theorem transact_cases (s : State) (sa : SlaveAddr) (wr : Option (List Byte)) (rlen : Nat) (h : rlen ≤ 16) :
    (s.transferResult rlen = .busErr ∧ s.transact sa wr rlen = (s.transferred sa wr rlen).raise .busError)
      ∨ ∃ rd, s.transferResult rlen = .ok rd ∧ rd.length = rlen
        ∧ s.transact sa wr rlen = (s.transferred sa wr rlen).writeBytes 0 rd := by
  rcases answerFor_cases s.nextDraw rlen h with hb | ⟨rd, hr, hl⟩
  · exact .inl ⟨hb, by simp only [State.transact, State.transferResult, hb]⟩
  · exact .inr ⟨rd, hr, hl, by simp only [State.transact, State.transferResult, hr]⟩

end Sys2Proof.Machine
end

