-- ==== Sys2Proof/Laws/Commands.lean ====
section
/-! SUPPORT. The helpers of the field codec and frame commands: what each reads and leaves, said once. -/

namespace Sys2Proof.Machine

set_option Elab.async false

open Sys2Proof.Safety

/-! ## Field ranges (43_field_codec.md R158) -/

@[simp] theorem clockOk_prologue (s : State) : s.prologue.clockOk = s.clockOk := rfl
@[simp] theorem dateFieldsOk_prologue (s : State) : s.prologue.dateFieldsOk = s.dateFieldsOk := rfl

theorem clockOk_iff (s : State) : s.clockOk = true ↔ ¬clockOut s := by
  simp [State.clockOk, clockOut, secondOk, minuteOk, hourOk, and_assoc]

theorem dateFieldsOk_iff (s : State) : s.dateFieldsOk = true ↔ ¬dateOut s := by
  simp [State.dateFieldsOk, dateOut, weekdayOk, dateOk, monthOk, yearOk]
  omega

theorem alarmDayOk_iff (s : State) (m : Byte) : alarmDayOk (s.getV 3) (s.getV 4) m = true ↔ ¬dayOut m s := by
  simp [alarmDayOk, dayOut, weekdayMode, weekdayOk, dateOk]
  split <;> simp <;> omega

/-! ## Runs of writes -/

/-- Byte k of a run of writes stands k registers on. -/
theorem getB_writeBytes_at (s : State) (b : BIndex) (xs : List Byte) (k : Nat) (hl : xs.length ≤ 16)
    (h : k < xs.length) : (s.writeBytes b xs).getB (b + BitVec.ofNat 4 k) = xs[k] := by
  have e : (b + BitVec.ofNat 4 k - b).toNat = k := by bv_omega
  rw [getB_writeBytes _ _ _ hl, dif_pos (by omega)]
  simp only [e]

/-- A run of writes that ends at B15 or before leaves every register outside it. -/
theorem sameBOutside_writeBytes (s : State) (b : BIndex) (xs : List Byte) (h : b.toNat + xs.length ≤ 16) :
    sameBOutside s (s.writeBytes b xs) b xs.length := by
  intro j hj
  rw [getB_writeBytes _ _ _ (by omega), dif_neg]
  bv_omega

/-! ## The alarm bits (43_field_codec.md R170) -/

/-- The alarm's bit is bit 0 for 1 and bit 1 for every other value. -/
theorem alarmBit_eq (x which : Byte) : alarmBit x which = if which = 1 then x.getLsbD 0 else x.getLsbD 1 := by
  unfold alarmBit alarmSel
  split <;> revert x <;> decide +kernel

/-! ## Sensor frames (44_crc.md R200, R201, R204) -/

/-! A proof over FRMPAIR or FRMSER takes the two checks apart with `rcases Bool.eq_false_or_eq_true (s.frameOk b)` and
rewrites with the results by `simp only`; `cases` or `generalize` on the check itself compares the two frames by unfolding
the CRC and does not end. -/

@[simp] theorem frameOk_prologue (s : State) (b : BIndex) : s.prologue.frameOk b = s.frameOk b := rfl
@[simp] theorem frameWord_prologue (s : State) (b : BIndex) : s.prologue.frameWord b = s.frameWord b := rfl

theorem frameOk_iff (s : State) (b : BIndex) : s.frameOk b = true ↔ crc8 [s.getB b, s.getB (b + 1)] = s.getB (b + 2) := by
  simp only [State.frameOk, verify_iff]

theorem wordOf_toNat (hi lo : Byte) : (wordOf hi lo).toNat = hi.toNat * 256 + lo.toNat := by
  rw [wordOf, BitVec.toNat_append, ← Nat.shiftLeft_add_eq_or_of_lt lo.isLt, Nat.shiftLeft_eq]

theorem serialOf_toNat (a b : Word16) : (serialOf a b).toNat = a.toNat * 65536 + b.toNat := by
  rw [serialOf, BitVec.toNat_append, ← Nat.shiftLeft_add_eq_or_of_lt b.isLt, Nat.shiftLeft_eq]

/-- All that `updatePair` can do: each word becomes its frame's word where that frame passes. -/
theorem updatePair_eq (s : State) (b : BIndex) :
    s.updatePair b =
      (s.setW0 (if s.frameOk b then s.frameWord b else s.W0)).setW1
        (if s.frameOk (b + 3) then s.frameWord (b + 3) else s.W1) := by
  unfold State.updatePair
  cases s.frameOk b <;> cases s.frameOk (b + 3) <;> rfl

end Sys2Proof.Machine
end

