-- ==== Sys2Proof/Laws/Decode.lean ====
section
/-! SUPPORT. The opcode table's lookup and the fixed bits of each format (30_encoding.md R82, R85). -/

namespace Sys2Proof

set_option Elab.async false

/-- The lookup finds each command by its own opcode. -/
theorem mnemonicOf_opcode (m : Mnemonic) : mnemonicOf m.opcode = some m := by
  cases m <;> decide

/-- What the lookup finds has the opcode looked up. -/
theorem opcode_of_mnemonicOf {op : Byte} {m : Mnemonic} (h : mnemonicOf op = some m) : m.opcode = op := by
  simpa using List.find?_some h

/-- No two commands share an opcode. -/
theorem opcode_injective {m n : Mnemonic} (h : m.opcode = n.opcode) : m = n := by
  have := mnemonicOf_opcode m
  rw [h, mnemonicOf_opcode n] at this
  exact (Option.some.inj this).symm

@[simp] theorem operandsOf_mnemonic (m : Mnemonic) (w : Word32) : (operandsOf m w).mnemonic = m := by
  cases m <;> rfl

/-! ## The fixed bits of each pattern: the opcode, and 0 in every must-be-zero bit -/

theorem wordN_fixed (m : Mnemonic) :
    wordN m &&& Format.N.mask = m.matchWord := by
  simp only [wordN, Mnemonic.matchWord, Format.mask]
  generalize m.opcode = o
  apply BitVec.eq_of_getLsbD_eq
  intro k hk
  interval_cases k <;> simp only [BitVec.getLsbD_and, BitVec.getLsbD_append] <;> simp

theorem wordX_fixed (m : Mnemonic) (sa : SlaveAddr) (ra : Byte) (n : BitVec 5) :
    wordX m sa ra n &&& Format.X.mask = m.matchWord := by
  simp only [wordX, Mnemonic.matchWord, Format.mask]
  generalize m.opcode = o
  apply BitVec.eq_of_getLsbD_eq
  intro k hk
  interval_cases k <;> simp only [BitVec.getLsbD_and, BitVec.getLsbD_append] <;> simp

theorem wordC_fixed (m : Mnemonic) (sa : SlaveAddr) (cw : Word16) :
    wordC m sa cw &&& Format.C.mask = m.matchWord := by
  simp only [wordC, Mnemonic.matchWord, Format.mask]
  generalize m.opcode = o
  apply BitVec.eq_of_getLsbD_eq
  intro k hk
  interval_cases k <;> simp only [BitVec.getLsbD_and, BitVec.getLsbD_append] <;> simp

theorem wordXR_fixed (m : Mnemonic) (sa : SlaveAddr) (n : BitVec 5) :
    wordXR m sa n &&& Format.XR.mask = m.matchWord := by
  simp only [wordXR, Mnemonic.matchWord, Format.mask]
  generalize m.opcode = o
  apply BitVec.eq_of_getLsbD_eq
  intro k hk
  interval_cases k <;> simp only [BitVec.getLsbD_and, BitVec.getLsbD_append] <;> simp

theorem wordBV_fixed (m : Mnemonic) (vr : BitVec 4) (br : BIndex) :
    wordBV m vr br &&& Format.BV.mask = m.matchWord := by
  simp only [wordBV, Mnemonic.matchWord, Format.mask]
  generalize m.opcode = o
  apply BitVec.eq_of_getLsbD_eq
  intro k hk
  interval_cases k <;> simp only [BitVec.getLsbD_and, BitVec.getLsbD_append] <;> simp

theorem wordB_fixed (m : Mnemonic) (br : BIndex) :
    wordB m br &&& Format.B.mask = m.matchWord := by
  simp only [wordB, Mnemonic.matchWord, Format.mask]
  generalize m.opcode = o
  apply BitVec.eq_of_getLsbD_eq
  intro k hk
  interval_cases k <;> simp only [BitVec.getLsbD_and, BitVec.getLsbD_append] <;> simp

theorem wordBP_fixed (m : Mnemonic) (p : Byte) (br : BIndex) :
    wordBP m p br &&& Format.BP.mask = m.matchWord := by
  simp only [wordBP, Mnemonic.matchWord, Format.mask]
  generalize m.opcode = o
  apply BitVec.eq_of_getLsbD_eq
  intro k hk
  interval_cases k <;> simp only [BitVec.getLsbD_and, BitVec.getLsbD_append] <;> simp

end Sys2Proof
end

