-- ==== Sys2Proof/Laws/Host.lean ====
section
/-! SUPPORT. The host register port (20_memory.md R50 to R53) and what a step can do (R65). -/

namespace Sys2Proof.Machine

set_option Elab.async false

/-- The low 16 addresses are B0 to B15 (R50). -/
theorem hostRead_B (s : State) (a : HostAddr) (h : a.toNat < 16) : s.hostRead a = s.getB (a.setWidth 4) := by
  rw [State.hostRead, if_pos h]

/-- The next 8 addresses are V0 to V7 (R50). -/
theorem hostRead_V (s : State) (a : HostAddr) (h0 : 16 ≤ a.toNat) (h : a.toNat < 24) :
    s.hostRead a = s.getV (a.setWidth 3) := by
  rw [State.hostRead, if_neg (by omega), if_pos h]

/-- A host write to B (R50, R52). -/
theorem hostWrite_B (s : State) (a : HostAddr) (v : Byte) (h : a.toNat < 16) :
    s.hostWrite a v = s.setB (a.setWidth 4) v := by
  rw [State.hostWrite, if_pos h]

/-- A host write to V (R50, R52). -/
theorem hostWrite_V (s : State) (a : HostAddr) (v : Byte) (h0 : 16 ≤ a.toNat) (h : a.toNat < 24) :
    s.hostWrite a v = s.setV (a.setWidth 3) v := by
  rw [State.hostWrite, if_neg (by omega), if_pos h]

/-- A host write leaves the read-only registers, the event history and what is outside the block as they were (R52). -/
theorem hostWrite_frame (s : State) (a : HostAddr) (v : Byte) :
    (s.hostWrite a v).W0 = s.W0 ∧ (s.hostWrite a v).W1 = s.W1 ∧ (s.hostWrite a v).SN = s.SN
      ∧ (s.hostWrite a v).ST = s.ST ∧ (s.hostWrite a v).events = s.events ∧ (s.hostWrite a v).port = s.port
      ∧ (s.hostWrite a v).draws = s.draws ∧ (s.hostWrite a v).drawCount = s.drawCount
      ∧ (s.hostWrite a v).hostReads = s.hostReads := by
  unfold State.hostWrite
  split
  · exact ⟨rfl, rfl, rfl, rfl, rfl, rfl, rfl, rfl, rfl⟩
  split
  · exact ⟨rfl, rfl, rfl, rfl, rfl, rfl, rfl, rfl, rfl⟩
  split
  all_goals exact ⟨rfl, rfl, rfl, rfl, rfl, rfl, rfl, rfl, rfl⟩

/-- What serving the next operation can be: idling, a decoded command, a word that is no command, a host read, a host
write or a reset. -/
theorem step_cases (s : State) :
    (s.port = [] ∧ step s = .next s)
      ∨ (∃ w rest i, s.port = .command w :: rest ∧ decode w = .ok i ∧ step s = exec i { s with port := rest })
      ∨ (∃ w rest e, s.port = .command w :: rest ∧ decode w = .error e
          ∧ step s = .next (State.illegal { s with port := rest }))
      ∨ (∃ a rest, s.port = .read a :: rest
          ∧ step s = .next { s with port := rest, hostReads := s.hostReads ++ [(a, s.hostRead a)] })
      ∨ (∃ a v rest, s.port = .write a v :: rest ∧ step s = .next (State.hostWrite { s with port := rest } a v))
      ∨ (∃ rest, s.port = .reset :: rest ∧ step s = .next (State.resetBlock { s with port := rest })) := by
  unfold step serveNext
  cases hp : s.port with
  | nil => exact .inl ⟨rfl, rfl⟩
  | cons op rest =>
    cases op with
    | command w =>
      cases hd : decode w with
      | ok i => exact .inr (.inl ⟨w, rest, i, rfl, hd, by simp only [serve, issue, hd]⟩)
      | error e => exact .inr (.inr (.inl ⟨w, rest, e, rfl, hd, by simp only [serve, issue, hd]⟩))
    | read a => exact .inr (.inr (.inr (.inl ⟨a, rest, rfl, rfl⟩)))
    | write a v => exact .inr (.inr (.inr (.inr (.inl ⟨a, v, rest, rfl, rfl⟩))))
    | reset => exact .inr (.inr (.inr (.inr (.inr ⟨rest, rfl, rfl⟩))))

end Sys2Proof.Machine
end

