-- ==== Sys2Proof/Laws/PerInstr.lean ====
section
/-! SUPPORT. Laws of every instruction as syntax, one lemma per constructor: FixedBits, that the word of an instruction
matches its row of the opcode table, and SourceFits, that the assembler accepts its source line. -/

namespace Sys2Proof.Laws

set_option Elab.async false

/-- The word under its format's mask is the row's match (30_encoding.md R82, R85). -/
def FixedBits.Statement (i : Instr) : Prop := encode i &&& i.mnemonic.format.mask = i.mnemonic.matchWord

/-- Every operand of the source line fits its field (30_encoding.md R89). -/
def SourceFits.Statement (i : Instr) : Prop := i.toSource.WellFormed = true

theorem FixedBits.nop : FixedBits.Statement .nop :=
  wordN_fixed .nop
theorem FixedBits.clrst : FixedBits.Statement .clrst :=
  wordN_fixed .clrst
theorem FixedBits.xwr (sa : BitVec 7) (ra : BitVec 8) (n : BitVec 5) : FixedBits.Statement (.xwr sa ra n) :=
  wordX_fixed .xwr sa ra n
theorem FixedBits.xrd (sa : BitVec 7) (ra : BitVec 8) (n : BitVec 5) : FixedBits.Statement (.xrd sa ra n) :=
  wordX_fixed .xrd sa ra n
theorem FixedBits.xcmd (sa : BitVec 7) (cw : BitVec 16) : FixedBits.Statement (.xcmd sa cw) :=
  wordC_fixed .xcmd sa cw
theorem FixedBits.xrdraw (sa : BitVec 7) (n : BitVec 5) : FixedBits.Statement (.xrdraw sa n) :=
  wordXR_fixed .xrdraw sa n
theorem FixedBits.bcddec (vr : BitVec 4) (br : BitVec 4) : FixedBits.Statement (.bcddec vr br) :=
  wordBV_fixed .bcddec vr br
theorem FixedBits.bcdenc (br : BitVec 4) (vr : BitVec 4) : FixedBits.Statement (.bcdenc br vr) :=
  wordBV_fixed .bcdenc vr br
theorem FixedBits.timedec (br : BitVec 4) : FixedBits.Statement (.timedec br) :=
  wordB_fixed .timedec br
theorem FixedBits.timeenc (br : BitVec 4) : FixedBits.Statement (.timeenc br) :=
  wordB_fixed .timeenc br
theorem FixedBits.clkdec (br : BitVec 4) : FixedBits.Statement (.clkdec br) :=
  wordB_fixed .clkdec br
theorem FixedBits.clkenc (br : BitVec 4) : FixedBits.Statement (.clkenc br) :=
  wordB_fixed .clkenc br
theorem FixedBits.datedec (br : BitVec 4) : FixedBits.Statement (.datedec br) :=
  wordB_fixed .datedec br
theorem FixedBits.dateenc (br : BitVec 4) : FixedBits.Statement (.dateenc br) :=
  wordB_fixed .dateenc br
theorem FixedBits.al1enc (br : BitVec 4) (mode : BitVec 8) : FixedBits.Statement (.al1enc br mode) :=
  wordBP_fixed .al1enc mode br
theorem FixedBits.al2enc (br : BitVec 4) (mode : BitVec 8) : FixedBits.Statement (.al2enc br mode) :=
  wordBP_fixed .al2enc mode br
theorem FixedBits.alentest (br : BitVec 4) (which : BitVec 8) : FixedBits.Statement (.alentest br which) :=
  wordBP_fixed .alentest which br
theorem FixedBits.alenable (br : BitVec 4) (which : BitVec 8) : FixedBits.Statement (.alenable br which) :=
  wordBP_fixed .alenable which br
theorem FixedBits.aldisable (br : BitVec 4) (which : BitVec 8) : FixedBits.Statement (.aldisable br which) :=
  wordBP_fixed .aldisable which br
theorem FixedBits.alfired (br : BitVec 4) (which : BitVec 8) : FixedBits.Statement (.alfired br which) :=
  wordBP_fixed .alfired which br
theorem FixedBits.crcinit : FixedBits.Statement .crcinit :=
  wordN_fixed .crcinit
theorem FixedBits.crcbyte (br : BitVec 4) : FixedBits.Statement (.crcbyte br) :=
  wordB_fixed .crcbyte br
theorem FixedBits.crc8 (br : BitVec 4) (n : BitVec 8) : FixedBits.Statement (.crc8 br n) :=
  wordBP_fixed .crc8 n br
theorem FixedBits.crcvfy (br : BitVec 4) (n : BitVec 8) : FixedBits.Statement (.crcvfy br n) :=
  wordBP_fixed .crcvfy n br
theorem FixedBits.frmpair (br : BitVec 4) : FixedBits.Statement (.frmpair br) :=
  wordB_fixed .frmpair br
theorem FixedBits.frmser (br : BitVec 4) : FixedBits.Statement (.frmser br) :=
  wordB_fixed .frmser br

/-! A field's own value fits the field. -/

theorem sa_fits (v : BitVec 7) : (Operand.num v.toNat).fits .sa = true := decide_eq_true v.isLt
theorem ra_fits (v : BitVec 8) : (Operand.num v.toNat).fits .ra = true := decide_eq_true v.isLt
theorem cw_fits (v : BitVec 16) : (Operand.num v.toNat).fits .cw = true := decide_eq_true v.isLt
theorem n_fits (v : BitVec 5) : (Operand.num v.toNat).fits .n = true := decide_eq_true v.isLt
theorem p_fits (v : BitVec 8) : (Operand.num v.toNat).fits .p = true := decide_eq_true v.isLt
theorem vr_fits (v : BitVec 4) : (Operand.vReg v.toNat).fits .vr = true := decide_eq_true v.isLt
theorem br_fits (v : BitVec 4) : (Operand.bReg v.toNat).fits .br = true := decide_eq_true v.isLt

theorem SourceFits.nop : SourceFits.Statement .nop := rfl
theorem SourceFits.clrst : SourceFits.Statement .clrst := rfl
theorem SourceFits.xwr (sa : BitVec 7) (ra : BitVec 8) (n : BitVec 5) : SourceFits.Statement (.xwr sa ra n) := by
  simp only [SourceFits.Statement, SourceLine.WellFormed, Instr.toSource, Instr.mnemonic, Mnemonic.operands,
    operandsFit, sa_fits, ra_fits, n_fits, Bool.and_self]
theorem SourceFits.xrd (sa : BitVec 7) (ra : BitVec 8) (n : BitVec 5) : SourceFits.Statement (.xrd sa ra n) := by
  simp only [SourceFits.Statement, SourceLine.WellFormed, Instr.toSource, Instr.mnemonic, Mnemonic.operands,
    operandsFit, sa_fits, ra_fits, n_fits, Bool.and_self]
theorem SourceFits.xcmd (sa : BitVec 7) (cw : BitVec 16) : SourceFits.Statement (.xcmd sa cw) := by
  simp only [SourceFits.Statement, SourceLine.WellFormed, Instr.toSource, Instr.mnemonic, Mnemonic.operands,
    operandsFit, sa_fits, cw_fits, Bool.and_self]
theorem SourceFits.xrdraw (sa : BitVec 7) (n : BitVec 5) : SourceFits.Statement (.xrdraw sa n) := by
  simp only [SourceFits.Statement, SourceLine.WellFormed, Instr.toSource, Instr.mnemonic, Mnemonic.operands,
    operandsFit, sa_fits, n_fits, Bool.and_self]
theorem SourceFits.bcddec (vr : BitVec 4) (br : BitVec 4) : SourceFits.Statement (.bcddec vr br) := by
  simp only [SourceFits.Statement, SourceLine.WellFormed, Instr.toSource, Instr.mnemonic, Mnemonic.operands,
    operandsFit, vr_fits, br_fits, Bool.and_self]
theorem SourceFits.bcdenc (br : BitVec 4) (vr : BitVec 4) : SourceFits.Statement (.bcdenc br vr) := by
  simp only [SourceFits.Statement, SourceLine.WellFormed, Instr.toSource, Instr.mnemonic, Mnemonic.operands,
    operandsFit, br_fits, vr_fits, Bool.and_self]
theorem SourceFits.timedec (br : BitVec 4) : SourceFits.Statement (.timedec br) := by
  simp only [SourceFits.Statement, SourceLine.WellFormed, Instr.toSource, Instr.mnemonic, Mnemonic.operands,
    operandsFit, br_fits, Bool.and_self]
theorem SourceFits.timeenc (br : BitVec 4) : SourceFits.Statement (.timeenc br) := by
  simp only [SourceFits.Statement, SourceLine.WellFormed, Instr.toSource, Instr.mnemonic, Mnemonic.operands,
    operandsFit, br_fits, Bool.and_self]
theorem SourceFits.clkdec (br : BitVec 4) : SourceFits.Statement (.clkdec br) := by
  simp only [SourceFits.Statement, SourceLine.WellFormed, Instr.toSource, Instr.mnemonic, Mnemonic.operands,
    operandsFit, br_fits, Bool.and_self]
theorem SourceFits.clkenc (br : BitVec 4) : SourceFits.Statement (.clkenc br) := by
  simp only [SourceFits.Statement, SourceLine.WellFormed, Instr.toSource, Instr.mnemonic, Mnemonic.operands,
    operandsFit, br_fits, Bool.and_self]
theorem SourceFits.datedec (br : BitVec 4) : SourceFits.Statement (.datedec br) := by
  simp only [SourceFits.Statement, SourceLine.WellFormed, Instr.toSource, Instr.mnemonic, Mnemonic.operands,
    operandsFit, br_fits, Bool.and_self]
theorem SourceFits.dateenc (br : BitVec 4) : SourceFits.Statement (.dateenc br) := by
  simp only [SourceFits.Statement, SourceLine.WellFormed, Instr.toSource, Instr.mnemonic, Mnemonic.operands,
    operandsFit, br_fits, Bool.and_self]
theorem SourceFits.al1enc (br : BitVec 4) (mode : BitVec 8) : SourceFits.Statement (.al1enc br mode) := by
  simp only [SourceFits.Statement, SourceLine.WellFormed, Instr.toSource, Instr.mnemonic, Mnemonic.operands,
    operandsFit, br_fits, p_fits, Bool.and_self]
theorem SourceFits.al2enc (br : BitVec 4) (mode : BitVec 8) : SourceFits.Statement (.al2enc br mode) := by
  simp only [SourceFits.Statement, SourceLine.WellFormed, Instr.toSource, Instr.mnemonic, Mnemonic.operands,
    operandsFit, br_fits, p_fits, Bool.and_self]
theorem SourceFits.alentest (br : BitVec 4) (which : BitVec 8) : SourceFits.Statement (.alentest br which) := by
  simp only [SourceFits.Statement, SourceLine.WellFormed, Instr.toSource, Instr.mnemonic, Mnemonic.operands,
    operandsFit, br_fits, p_fits, Bool.and_self]
theorem SourceFits.alenable (br : BitVec 4) (which : BitVec 8) : SourceFits.Statement (.alenable br which) := by
  simp only [SourceFits.Statement, SourceLine.WellFormed, Instr.toSource, Instr.mnemonic, Mnemonic.operands,
    operandsFit, br_fits, p_fits, Bool.and_self]
theorem SourceFits.aldisable (br : BitVec 4) (which : BitVec 8) : SourceFits.Statement (.aldisable br which) := by
  simp only [SourceFits.Statement, SourceLine.WellFormed, Instr.toSource, Instr.mnemonic, Mnemonic.operands,
    operandsFit, br_fits, p_fits, Bool.and_self]
theorem SourceFits.alfired (br : BitVec 4) (which : BitVec 8) : SourceFits.Statement (.alfired br which) := by
  simp only [SourceFits.Statement, SourceLine.WellFormed, Instr.toSource, Instr.mnemonic, Mnemonic.operands,
    operandsFit, br_fits, p_fits, Bool.and_self]
theorem SourceFits.crcinit : SourceFits.Statement .crcinit := rfl
theorem SourceFits.crcbyte (br : BitVec 4) : SourceFits.Statement (.crcbyte br) := by
  simp only [SourceFits.Statement, SourceLine.WellFormed, Instr.toSource, Instr.mnemonic, Mnemonic.operands,
    operandsFit, br_fits, Bool.and_self]
theorem SourceFits.crc8 (br : BitVec 4) (n : BitVec 8) : SourceFits.Statement (.crc8 br n) := by
  simp only [SourceFits.Statement, SourceLine.WellFormed, Instr.toSource, Instr.mnemonic, Mnemonic.operands,
    operandsFit, br_fits, p_fits, Bool.and_self]
theorem SourceFits.crcvfy (br : BitVec 4) (n : BitVec 8) : SourceFits.Statement (.crcvfy br n) := by
  simp only [SourceFits.Statement, SourceLine.WellFormed, Instr.toSource, Instr.mnemonic, Mnemonic.operands,
    operandsFit, br_fits, p_fits, Bool.and_self]
theorem SourceFits.frmpair (br : BitVec 4) : SourceFits.Statement (.frmpair br) := by
  simp only [SourceFits.Statement, SourceLine.WellFormed, Instr.toSource, Instr.mnemonic, Mnemonic.operands,
    operandsFit, br_fits, Bool.and_self]
theorem SourceFits.frmser (br : BitVec 4) : SourceFits.Statement (.frmser br) := by
  simp only [SourceFits.Statement, SourceLine.WellFormed, Instr.toSource, Instr.mnemonic, Mnemonic.operands,
    operandsFit, br_fits, Bool.and_self]

end Sys2Proof.Laws
end

