-- ==== Sys2Proof/Machine/Sequence.lean ====
section
/-! DEFINITION. The device-driver operations as pseudo-instructions (30_encoding.md R91, R100 to R102), the register
frames they move (20_memory.md R62, 41_framer.md R125), and how the host runs one. Host-side notation: nothing here is
state of the block or a command of its own. -/

namespace Sys2Proof.Machine

/-! ## Register frames of the RTC and waits of the sensor -/

/-- A frame of a device's registers: its first register address and its length in bytes (R62). -/
structure DeviceFrame where
  ra : BitVec 8
  len : BitVec 5
deriving DecidableEq, Repr

/-- The time frame: 7 bytes at 0x00 (R125). -/
def timeFrame : DeviceFrame := { ra := 0x00, len := 7 }

/-- The clock sub-frame: 3 bytes at 0x00 (R125). -/
def clockSubFrame : DeviceFrame := { ra := 0x00, len := 3 }

/-- The date sub-frame: 4 bytes at 0x03 (R125). -/
def dateSubFrame : DeviceFrame := { ra := 0x03, len := 4 }

/-- The alarm-1 frame: 4 bytes at 0x07 (R125). -/
def alarm1Regs : DeviceFrame := { ra := 0x07, len := 4 }

/-- The alarm-2 frame: 3 bytes at 0x0B (R125). -/
def alarm2Regs : DeviceFrame := { ra := 0x0B, len := 3 }

/-- The control register: 1 byte at 0x0E (R125). -/
def controlReg : DeviceFrame := { ra := 0x0E, len := 1 }

/-- The status register: 1 byte at 0x0F (R125). -/
def statusReg : DeviceFrame := { ra := 0x0F, len := 1 }

/-- One addressed read of a frame (R125). -/
def readFrame (sa : SlaveAddr) (f : DeviceFrame) : Instr := .xrd sa f.ra f.len

/-- One addressed write of a frame (R125). -/
def writeFrame (sa : SlaveAddr) (f : DeviceFrame) : Instr := .xwr sa f.ra f.len

/-- The bytes of a sensor answer: two frames of three (R126). -/
def sensorAnswer : BitVec 5 := 6

/-- Milliseconds between the serial-number command and the read (70_reset_and_hazards.md R272). -/
def serialWaitMs : Nat := 1

/-- Milliseconds between a measurement command and the read: 1 with clock stretching, 5 with polling (R101, R272). -/
def measureWaitMs (clockStretch : Bool) : Nat := if clockStretch then 1 else 5

/-! ## Pseudo-instructions -/

/-- A step of a host sequence: a command, or a delay of at least some milliseconds (R91). -/
inductive SeqStep where
  | run (i : Instr)
  | wait (ms : Nat)
deriving DecidableEq, Repr

/-- The pseudo-instructions: twelve of the RTC driver (R100), three of the sensor driver (R101). SNSMEAS takes any wait in
milliseconds; R101's two are `measureWaitMs` (log 21). -/
inductive Pseudo where
  | getTime (sa : BitVec 7)
  | setTime (sa : BitVec 7)
  | getClock (sa : BitVec 7)
  | setClock (sa : BitVec 7)
  | getDate (sa : BitVec 7)
  | setDate (sa : BitVec 7)
  | setAlarm1 (sa : BitVec 7) (mode : BitVec 8)
  | setAlarm2 (sa : BitVec 7) (mode : BitVec 8)
  | alarmIntEn (sa : BitVec 7) (which : BitVec 8)
  | alarmIntDis (sa : BitVec 7) (which : BitVec 8)
  | alarmIntQ (sa : BitVec 7) (which : BitVec 8)
  | alarmFired (sa : BitVec 7) (which : BitVec 8)
  | snsCmd (sa : BitVec 7) (cw : BitVec 16)
  | snsSerial (sa : BitVec 7) (cwSn : BitVec 16)
  | snsMeas (sa : BitVec 7) (cwMeas : BitVec 16) (ms : Nat)
deriving DecidableEq, Repr

/-- The expansion of a pseudo-instruction (R100, R101). ALARMFIRED writes back whether or not the alarm had fired. -/
def Pseudo.expand : Pseudo → List SeqStep
  | .getTime sa => [.run (readFrame sa timeFrame), .run (.timedec 0)]
  | .setTime sa => [.run (.timeenc 0), .run (writeFrame sa timeFrame)]
  | .getClock sa => [.run (readFrame sa clockSubFrame), .run (.clkdec 0)]
  | .setClock sa => [.run (.clkenc 0), .run (writeFrame sa clockSubFrame)]
  | .getDate sa => [.run (readFrame sa dateSubFrame), .run (.datedec 0)]
  | .setDate sa => [.run (.dateenc 0), .run (writeFrame sa dateSubFrame)]
  | .setAlarm1 sa mode => [.run (.al1enc 0 mode), .run (writeFrame sa alarm1Regs)]
  | .setAlarm2 sa mode => [.run (.al2enc 0 mode), .run (writeFrame sa alarm2Regs)]
  | .alarmIntEn sa which =>
      [.run (readFrame sa controlReg), .run (.alenable 0 which), .run (writeFrame sa controlReg)]
  | .alarmIntDis sa which =>
      [.run (readFrame sa controlReg), .run (.aldisable 0 which), .run (writeFrame sa controlReg)]
  | .alarmIntQ sa which => [.run (readFrame sa controlReg), .run (.alentest 0 which)]
  | .alarmFired sa which =>
      [.run (readFrame sa statusReg), .run (.alfired 0 which), .run (writeFrame sa statusReg)]
  | .snsCmd sa cw => [.run (.xcmd sa cw)]
  | .snsSerial sa cw => [.run (.xcmd sa cw), .wait serialWaitMs, .run (.xrdraw sa sensorAnswer), .run (.frmser 0)]
  | .snsMeas sa cw ms => [.run (.xcmd sa cw), .wait ms, .run (.xrdraw sa sensorAnswer), .run (.frmpair 0)]

/-- The error the host sees in STATUS (R91: it reads address 0x21). -/
def State.reportedError (s : State) : BitVec 3 := Status.err (s.hostRead 0x21)

/-- A host sequence run with no other host thread between its commands: after each command the host reads ST and stops
at the first whose ERR is not 0; the block does nothing during a wait (R91; log 17). -/
def runSequence : List SeqStep → State → Host.Outcome State Fault Refusal
  | [], s => .next s
  | .wait _ :: rest, s => runSequence rest s
  | .run i :: rest, s =>
    match exec i s with
    | .next t => if t.reportedError = 0 then runSequence rest t else .next t
    | .fault r => .fault r
    | .refused r => .refused r

/-- What a measurement gives the host: each word where its frame passed (10_state.md R31; 70_reset_and_hazards.md R275). -/
def State.sensorReading (s : State) : Option Word16 × Option Word16 :=
  (if s.ST.fv0 then some s.W0 else none, if s.ST.fv1 then some s.W1 else none)

end Sys2Proof.Machine
end

