-- ==== Sys2Proof/Machine/Assembler.lean ====
section
/-! DEFINITION. The assembler's text (30_encoding.md R89 to R91): one command or pseudo-instruction a line, mnemonic then
operands separated by commas, numbers decimal or `0x` hexadecimal, registers `B0` to `B15` and `V0` to `V7`, `;` starts a
comment. White space, letter case, empty lines and leading zeros: log 12; how a wait is written: log 21. -/

namespace Sys2Proof.Machine

/-! ## Names -/

/-- The mnemonic as the source writes it (R85). -/
def mnemonicName : Mnemonic → String
  | .nop => "NOP"
  | .clrst => "CLRST"
  | .xwr => "XWR"
  | .xrd => "XRD"
  | .xcmd => "XCMD"
  | .xrdraw => "XRDRAW"
  | .bcddec => "BCDDEC"
  | .bcdenc => "BCDENC"
  | .timedec => "TIMEDEC"
  | .timeenc => "TIMEENC"
  | .clkdec => "CLKDEC"
  | .clkenc => "CLKENC"
  | .datedec => "DATEDEC"
  | .dateenc => "DATEENC"
  | .al1enc => "AL1ENC"
  | .al2enc => "AL2ENC"
  | .alentest => "ALENTEST"
  | .alenable => "ALENABLE"
  | .aldisable => "ALDISABLE"
  | .alfired => "ALFIRED"
  | .crcinit => "CRCINIT"
  | .crcbyte => "CRCBYTE"
  | .crc8 => "CRC8"
  | .crcvfy => "CRCVFY"
  | .frmpair => "FRMPAIR"
  | .frmser => "FRMSER"

/-- The symbolic mode names of AL1ENC and AL2ENC (R90). -/
def modeNames : List (String × Nat) :=
  [("A1_EVERY_SECOND", 0x0F), ("A1_SECOND", 0x0E), ("A1_MINUTE_SECOND", 0x0C), ("A1_HOUR_MINUTE_SECOND", 0x08),
   ("A1_DATE_HOUR_MINUTE_SECOND", 0x00), ("A1_WEEKDAY_HOUR_MINUTE_SECOND", 0x10), ("A2_EVERY_MINUTE", 0x07),
   ("A2_MINUTE", 0x06), ("A2_HOUR_MINUTE", 0x04), ("A2_DATE_HOUR_MINUTE", 0x00), ("A2_WEEKDAY_HOUR_MINUTE", 0x10)]

/-- The pseudo-instructions that take a slave address alone (R100). -/
def pseudoSa : List (String × (SlaveAddr → Pseudo)) :=
  [("GETTIME", .getTime), ("SETTIME", .setTime), ("GETCLOCK", .getClock), ("SETCLOCK", .setClock),
   ("GETDATE", .getDate), ("SETDATE", .setDate)]

/-- The pseudo-instructions that take a mode code (R100). -/
def pseudoMode : List (String × (SlaveAddr → Byte → Pseudo)) := [("SETALARM1", .setAlarm1), ("SETALARM2", .setAlarm2)]

/-- The pseudo-instructions that take `which` (R100). -/
def pseudoWhich : List (String × (SlaveAddr → Byte → Pseudo)) :=
  [("ALARMINTEN", .alarmIntEn), ("ALARMINTDIS", .alarmIntDis), ("ALARMINTQ", .alarmIntQ), ("ALARMFIRED", .alarmFired)]

/-- The pseudo-instructions that take a command word (R101). -/
def pseudoCw : List (String × (SlaveAddr → Word16 → Pseudo)) := [("SNSCMD", .snsCmd), ("SNSSERIAL", .snsSerial)]

/-- What a table of names gives for a token. -/
def lookupName {α : Type} (table : List (String × α)) (token : List Char) : Option α :=
  (table.find? fun row => row.1.toList == token).map fun row => row.2

/-! ## Tokens -/

/-- White space between tokens (log 12). -/
def isBlank (c : Char) : Bool := c == ' ' || c == '\t'

/-- A token without the white space around it. -/
def trimBlanks (cs : List Char) : List Char :=
  ((cs.dropWhile isBlank).reverse.dropWhile isBlank).reverse

/-- The value of a decimal digit. -/
def decimalDigit (c : Char) : Option Nat :=
  if 48 ≤ c.toNat ∧ c.toNat ≤ 57 then some (c.toNat - 48) else none

/-- The value of a hexadecimal digit. -/
def hexDigit (c : Char) : Option Nat :=
  if 65 ≤ c.toNat ∧ c.toNat ≤ 70 then some (c.toNat - 55)
  else if 97 ≤ c.toNat ∧ c.toNat ≤ 102 then some (c.toNat - 87)
  else decimalDigit c

/-- A numeral in a base, at least one digit. -/
def numeral (base : Nat) (digit : Char → Option Nat) : List Char → Option Nat
  | [] => none
  | cs => cs.foldlM (fun acc c => (digit c).map fun d => acc * base + d) 0

/-- A number, decimal or `0x` hexadecimal (R89). Leading zeros: DESIGN CHOICE (log 12). -/
def numberToken : List Char → Option Nat
  | '0' :: 'x' :: ds => numeral 16 hexDigit ds
  | ds => numeral 10 decimalDigit ds

/-- An operand: a register or a number (R89). DESIGN CHOICE (log 12): a register's index may have leading zeros, so `B00`
and `B007` name B0 and B7; R89 writes only `B0` to `B15` and `V0` to `V7`. -/
def operandToken : List Char → Option Operand
  | 'B' :: ds => (numeral 10 decimalDigit ds).map .bReg
  | 'V' :: ds => (numeral 10 decimalDigit ds).map .vReg
  | ds => (numberToken ds).map .num

/-- An operand where a mode code may stand: a symbolic name too (R90; log 20). -/
def modeToken (cs : List Char) : Option Operand :=
  match lookupName modeNames cs with
  | some m => some (.num m)
  | none => operandToken cs

/-- The pieces of a list between separators. -/
def splitAtChar (sep : Char) : List Char → List (List Char)
  | [] => [[]]
  | c :: cs =>
    match splitAtChar sep cs with
    | [] => [[c]]
    | p :: ps => if c == sep then [] :: p :: ps else (c :: p) :: ps

/-! ## Lines -/

/-- The mnemonic token of a line and the tokens of its operands, the comment dropped (R89). -/
def lineTokens (line : List Char) : List Char × List (List Char) :=
  let body := trimBlanks (line.takeWhile fun c => c != ';')
  let rest := trimBlanks (body.dropWhile fun c => !isBlank c)
  (body.takeWhile fun c => !isBlank c, if rest.isEmpty then [] else (splitAtChar ',' rest).map trimBlanks)

/-- The command a token names (R85). -/
def commandNamed (token : List Char) : Option Mnemonic :=
  Mnemonic.all.find? fun m => (mnemonicName m).toList == token

/-- The operands of a command's line; a mode name may stand for the P operand of AL1ENC and AL2ENC (R90). -/
def commandOperands (m : Mnemonic) (tokens : List (List Char)) : Option (List Operand) :=
  tokens.mapM (if m = .al1enc ∨ m = .al2enc then modeToken else operandToken)

/-- The slave address an operand stands for, where it fits. -/
def saOperand (token : List Char) : Option SlaveAddr :=
  (numberToken token).bind fun n => if n < 128 then some (BitVec.ofNat 7 n) else none

/-- A number below a bound, or a mode name where `names` holds some. -/
def boundedOperand (names : List (String × Nat)) (bound : Nat) (token : List Char) : Option Nat :=
  ((lookupName names token).orElse fun _ => numberToken token).bind fun n => if n < bound then some n else none

/-- A pseudo-instruction's line (R91, R100, R101): its operands must fit the fields they go to (R89). DESIGN CHOICE (log 21):
the operand t of SNSMEAS is a bare number of milliseconds, of any size; the text `5 ms` is refused. -/
def pseudoLine (name : List Char) (tokens : List (List Char)) : Option Pseudo :=
  match tokens with
  | [t] => do
      let make ← lookupName pseudoSa name
      return make (← saOperand t)
  | [t, u] =>
      (do let make ← lookupName pseudoMode name
          return make (← saOperand t) (BitVec.ofNat 8 (← boundedOperand modeNames 256 u)))
      <|> (do let make ← lookupName pseudoWhich name
              return make (← saOperand t) (BitVec.ofNat 8 (← boundedOperand [] 256 u)))
      <|> (do let make ← lookupName pseudoCw name
              return make (← saOperand t) (BitVec.ofNat 16 (← boundedOperand [] 65536 u)))
  | [t, u, v] =>
      if name == "SNSMEAS".toList then do
        return .snsMeas (← saOperand t) (BitVec.ofNat 16 (← boundedOperand [] 65536 u)) (← numberToken v)
      else none
  | _ => none

/-- One piece of assembled output: a command word, or a host delay between two of them (R91). -/
inductive AsmItem where
  | word (w : Word32)
  | wait (ms : Nat)
deriving DecidableEq, Repr

/-- The output of one step of an expansion. -/
def SeqStep.item : SeqStep → AsmItem
  | .run i => .word (encode i)
  | .wait ms => .wait ms

/-- A source line assembled: one word for a command, the expansion for a pseudo-instruction, nothing for an empty line;
none where the assembler refuses the line (R89, R91). -/
def assembleLine (line : List Char) : Option (List AsmItem) :=
  let (name, tokens) := lineTokens line
  if name.isEmpty then some []
  else
    match commandNamed name with
    | some m => do
        let ops ← commandOperands m tokens
        let w ← assemble { mnemonic := m, operands := ops }
        return [.word w]
    | none => (pseudoLine name tokens).map fun p => p.expand.map SeqStep.item

end Sys2Proof.Machine
end

