-- ==== Sys2Proof/Tests/Slice0.lean ====
section
/-! SUPPORT. Tests of one step each, expected values from spec/95_test_vectors.md, and for every statement with hypotheses
a theorem that shows them met. -/

namespace Sys2Proof.Tests

set_option Elab.async false

open Sys2Proof Sys2Proof.Machine Sys2Proof.Safety

/-! ## Small states -/

/-- Reset with B0, B1, … holding the bytes. -/
def onB (xs : List Byte) : State := State.reset.writeBytes 0 xs

/-- Reset with B[b], B[b+1], … holding the bytes. -/
def onBAt (b : BIndex) (xs : List Byte) : State := State.reset.writeBytes b xs

/-- A state with V[i], V[i+1], … holding the values. -/
def putV (s : State) (i : VIndex) : List Byte → State
  | [] => s
  | x :: xs => putV (s.setV i x) (i + 1) xs

/-- Reset with V0, V1, … holding the values. -/
def onV (xs : List Byte) : State := putV State.reset 0 xs

/-- The Transport's answer that holds these bytes first. -/
def answer (xs : List Byte) : Draw := .ok (Vector.ofFn fun i => xs.getD i.val 0xEE)

/-- A state whose coming transaction gets this answer. -/
def drawing (d : Draw) (s : State) : State := { s with draws := [d] }

/-- A state whose host does this next. -/
def hosted (op : HostOp) (s : State) : State := { s with port := [op] }

/-- What a function reads of the next state of a step; none where the step does not answer one. -/
def stepped {α : Type} (s : State) (f : State → α) : Option α :=
  match step s with
  | .next t => some (f t)
  | _ => none

/-- The same after the step that runs one command word. -/
def ran {α : Type} (w : Word32) (s : State) (f : State → α) : Option α := stepped (hosted (.command w) s) f

/-- The first registers B[0], B[1], …. -/
def firstB (n : Nat) (s : State) : List Byte := s.bytesFrom 0 n

/-- V0 to V6. -/
def fields (s : State) : List Byte := [s.getV 0, s.getV 1, s.getV 2, s.getV 3, s.getV 4, s.getV 5, s.getV 6]

/-! ## Well-formedness: one ill-formed source line for each check (30_encoding.md R89) -/

theorem test_refuses_sa_128 : (SourceLine.mk .xcmd [.num 128, .num 0]).WellFormed = false := by decide
theorem test_refuses_ra_256 : (SourceLine.mk .xwr [.num 104, .num 256, .num 0]).WellFormed = false := by decide
theorem test_refuses_cw_65536 : (SourceLine.mk .xcmd [.num 0, .num 65536]).WellFormed = false := by decide
theorem test_refuses_n_32 : (SourceLine.mk .xrdraw [.num 0, .num 32]).WellFormed = false := by decide
theorem test_refuses_p_256 : (SourceLine.mk .crc8 [.bReg 0, .num 256]).WellFormed = false := by decide
theorem test_refuses_V16 : (SourceLine.mk .bcddec [.vReg 16, .bReg 0]).WellFormed = false := by decide
theorem test_refuses_B16 : (SourceLine.mk .timedec [.bReg 16]).WellFormed = false := by decide
theorem test_refuses_number_for_register : (SourceLine.mk .timedec [.num 0]).WellFormed = false := by decide
theorem test_refuses_V_for_B : (SourceLine.mk .bcddec [.bReg 0, .vReg 0]).WellFormed = false := by decide
theorem test_refuses_missing_operand : (SourceLine.mk .bcddec [.vReg 0]).WellFormed = false := by decide
theorem test_refuses_extra_operand : (SourceLine.mk .nop [.num 0]).WellFormed = false := by decide
/-- R89: a value the field holds but the command rejects is accepted: `XRD 0x68, 0x00, 17`, `BCDDEC V8, B0`. -/
theorem test_accepts_what_the_command_rejects :
    (SourceLine.mk .xrd [.num 0x68, .num 0, .num 17]).WellFormed = true
    ∧ (SourceLine.mk .bcddec [.vReg 8, .bReg 0]).WellFormed = true := by decide

/-! ## Decoding: words written out from the patterns of 30_encoding.md R82 and R85 -/

/-- System words, format N. -/
theorem test_decode_system :
    decode 0b00000000000000000000000000000000 = .ok .nop
    ∧ decode 0b00000001000000000000000000000000 = .ok .clrst := by decide

/-- Framer words, formats X, C and XR: OP, 0, SA, then RA 000 N, or CW, or zeros and N. -/
theorem test_decode_framer :
    decode 0b00010000011010000000111000000111 = .ok (.xwr 0b1101000 0b00001110 0b00111)
    ∧ decode 0b00010001011111111111111100011111 = .ok (.xrd 0b1111111 0b11111111 0b11111)
    ∧ decode 0b00010010010001000010010000000001 = .ok (.xcmd 0b1000100 0b0010010000000001)
    ∧ decode 0b00010011010001000000000000000110 = .ok (.xrdraw 0b1000100 0b00110) := by decide

/-- BCD words, format BV: OP, zeros, VR, 0000, BR. -/
theorem test_decode_bcd :
    decode 0b00100000000000000000011100000011 = .ok (.bcddec 0b0111 0b0011)
    ∧ decode 0b00100001000000000000000100001111 = .ok (.bcdenc 0b1111 0b0001) := by decide

/-- Time, clock and date words, format B: OP, zeros, BR. -/
theorem test_decode_time :
    decode 0b00110000000000000000000000001001 = .ok (.timedec 0b1001)
    ∧ decode 0x31000001 = .ok (.timeenc 1) ∧ decode 0x3200000D = .ok (.clkdec 13)
    ∧ decode 0x33000002 = .ok (.clkenc 2) ∧ decode 0x3400000C = .ok (.datedec 12)
    ∧ decode 0x35000004 = .ok (.dateenc 4) := by decide

/-- Alarm words, format BP: OP, zeros, P, 0000, BR. -/
theorem test_decode_alarm :
    decode 0b00110110000000000000111100001100 = .ok (.al1enc 0b1100 0b00001111)
    ∧ decode 0x3700000D = .ok (.al2enc 13 0x00) ∧ decode 0x38000100 = .ok (.alentest 0 1)
    ∧ decode 0x3900FF00 = .ok (.alenable 0 255) ∧ decode 0x3A000105 = .ok (.aldisable 5 1)
    ∧ decode 0x3B000200 = .ok (.alfired 0 2) := by decide

/-- CRC and frame words, formats N, B and BP. -/
theorem test_decode_crc :
    decode 0x40000000 = .ok .crcinit ∧ decode 0x41000001 = .ok (.crcbyte 1)
    ∧ decode 0b01000010000000000000001000001111 = .ok (.crc8 0b1111 0b00000010)
    ∧ decode 0x4300020D = .ok (.crcvfy 13 2) ∧ decode 0x4400000A = .ok (.frmpair 10)
    ∧ decode 0b01000101000000000000000000000011 = .ok (.frmser 0b0011) := by decide

/-- 95_test_vectors.md 2.10: unassigned opcodes (R87). -/
theorem test_decode_unassigned :
    decode 0x02000000 = .error .unassignedOpcode ∧ decode 0xFF000000 = .error .unassignedOpcode
    ∧ decode 0x46000000 = .error .unassignedOpcode := by decide

/-- 95_test_vectors.md 2.1, 2.2, 2.10: a must-be-zero bit of each format (R86). -/
theorem test_decode_must_be_zero :
    decode 0x00000001 = .error .mustBeZeroSet ∧ decode 0x10800000 = .error .mustBeZeroSet
    ∧ decode 0x10680020 = .error .mustBeZeroSet ∧ decode 0x12C42400 = .error .mustBeZeroSet
    ∧ decode 0x13440106 = .error .mustBeZeroSet ∧ decode 0x2000F000 = .error .mustBeZeroSet
    ∧ decode 0x20000010 = .error .mustBeZeroSet ∧ decode 0x30000010 = .error .mustBeZeroSet
    ∧ decode 0x36000810 = .error .mustBeZeroSet := by decide

/-! ## The assembler and the pseudo-instructions (30_encoding.md R89 to R102) -/

/-- 95_test_vectors.md P5: `XCMD 0x44, 0x2400   ; 0x12442400`. -/
theorem test_assemble_xcmd : assembleLine "XCMD 0x44, 0x2400   ; comment".toList = some [.word 0x12442400] := by
  decide +kernel

/-- 95_test_vectors.md P8: a symbolic mode name (R90). -/
theorem test_assemble_mode_name :
    assembleLine "AL1ENC B0, A1_HOUR_MINUTE_SECOND".toList = some [.word 0x36000800] := by decide +kernel

/-- 95_test_vectors.md P3: ALARMINTEN 0x68, 1. -/
theorem test_assemble_alarminten :
    assembleLine "ALARMINTEN 0x68, 1".toList
      = some [.word 0x11680E01, .word 0x39000100, .word 0x10680E01] := by decide +kernel

/-- 95_test_vectors.md P6: SNSSERIAL 0x44, 0x3780. -/
theorem test_assemble_snsserial :
    assembleLine "SNSSERIAL 0x44, 0x3780".toList
      = some [.word 0x12443780, .wait 1, .word 0x13440006, .word 0x45000000] := by decide +kernel

/-- Logs 12 and 21, the model's choices: a leading zero in a register name, a wait without a unit. -/
theorem test_assemble_choices :
    assembleLine "TIMEDEC B007".toList = some [.word 0x30000007]
    ∧ assembleLine "SNSMEAS 0x44, 0x2400, 5".toList
        = some [.word 0x12442400, .wait 5, .word 0x13440006, .word 0x44000000]
    ∧ assembleLine "SNSMEAS 0x44, 0x2400, 5 ms".toList = none := by decide +kernel

/-- R89: an operand that does not fit its field. -/
theorem test_assemble_refuses : assembleLine "XCMD 0x80, 0x2400".toList = none := by decide +kernel

/-- 95_test_vectors.md P2, the variant: the host stops after the failed read and TIMEDEC does not run (R91). -/
theorem test_sequence_stops_on_error :
    (match runSequence (Pseudo.expand (.getTime 0x68)) (drawing .busErr State.reset) with
      | .next t => some (t.ST, t.events.length)
      | _ => none) = some (0x81, 1) := by decide +kernel

/-! ## System commands (95_test_vectors.md 2.10) -/

theorem test_nop_keeps_stk : ran 0x00000000 (State.reset.setST 0x83) State.ST = some 0x80 := by decide +kernel
theorem test_clrst : ran 0x01000000 (State.reset.setST 0xB2) State.ST = some 0x30 := by decide +kernel
theorem test_illegal_words :
    ran 0x00000001 State.reset State.ST = some 0x84 ∧ ran 0x02000000 State.reset State.ST = some 0x84 := by
  decide +kernel

/-! ## Framer (95_test_vectors.md 2.1) -/

theorem test_xwr_frame :
    ran 0x10680007 (drawing (answer []) (onB [0x56, 0x34, 0x12, 0x03, 0x15, 0x08, 0x25])) (fun t => (t.ST, t.events))
      = some (0x00, [{ sa := 0x68
                       wr := some [0x00, 0x56, 0x34, 0x12, 0x03, 0x15, 0x08, 0x25]
                       rlen := 0
                       result := .ok [] }]) := by decide +kernel
theorem test_xwr_16_rejected :
    ran 0x10680010 State.reset (fun t => (t.ST, t.events)) = some (0x83, []) := by decide +kernel
theorem test_xrd_into_ff :
    ran 0x11680304 (drawing (answer [0x07, 0x31, 0x92, 0x99]) (onB (List.replicate 16 0xFF))) (firstB 6)
      = some [0x07, 0x31, 0x92, 0x99, 0xFF, 0xFF] := by decide +kernel
theorem test_xrd_bus_error :
    ran 0x11680007 (drawing .busErr (onB [0xAA])) (fun t => (t.getB 0, t.ST)) = some (0xAA, 0x81) := by decide +kernel
theorem test_xcmd_bytes :
    ran 0x12442400 (drawing (answer []) State.reset) (fun t => t.events.map Event.wr) = some [some [0x24, 0x00]] := by
  decide +kernel
theorem test_xcmd_bus_error : ran 0x1200FFFF (drawing .busErr State.reset) State.ST = some 0x81 := by decide +kernel
theorem test_xrdraw :
    ran 0x13440006 (drawing (answer [0x66, 0x66, 0x93, 0x5E, 0xB8, 0x0D]) State.reset) (firstB 7)
      = some [0x66, 0x66, 0x93, 0x5E, 0xB8, 0x0D, 0x00] := by decide +kernel
theorem test_xrdraw_0_rejected :
    ran 0x13440000 State.reset (fun t => (t.ST, t.events)) = some (0x83, []) := by decide +kernel

/-! ## BCD (95_test_vectors.md 2.2) -/

theorem test_dec_table :
    ([0x00, 0x09, 0x59, 0x99, 0x0A, 0x3C, 0x9F, 0xA0, 0xFF] : List Byte).map (fun x => (dec x, mal x))
      = [(0, false), (9, false), (59, false), (99, false), (10, true), (42, true), (105, true), (100, true),
         (165, true)] := by decide
theorem test_bcddec_7_3 : ran 0x20000703 (onBAt 3 [0x59]) (fun t => (t.getV 7, t.ST)) = some (59, 0x00) := by decide +kernel
theorem test_bcddec_malformed : ran 0x20000000 (onB [0xFF]) (fun t => (t.getV 0, t.ST)) = some (165, 0x08) := by
  decide +kernel
theorem test_bcdenc : ran 0x2100010F (onV [0, 99]) (fun t => (t.getB 15, t.ST)) = some (0x99, 0x00) := by decide +kernel
theorem test_bcdenc_100 :
    ran 0x21000000 ((onV [100]).setB 0 0x12) (fun t => (t.getB 0, t.ST)) = some (0x12, 0x83) := by decide +kernel

/-! ## Time, clock and date (95_test_vectors.md 2.3, 2.4) -/

theorem test_hour_table :
    ([0x23, 0x25, 0x3F, 0xA5, 0x49, 0x52, 0x5F, 0x61, 0x72, 0x7F, 0xC9, 0xE9] : List Byte).map
        (fun b => (decHour b, malHour b))
      = [(23, false), (25, false), (45, true), (25, false), (9, false), (12, false), (25, true), (13, false),
         (24, false), (37, true), (9, false), (21, false)] := by decide
theorem test_timedec_12_hour :
    ran 0x30000000 (onB [0x59, 0x59, 0x71, 0x07, 0x31, 0x92, 0x99]) (fun t => (fields t, t.ST))
      = some ([59, 59, 23, 7, 31, 12, 99], 0x00) := by decide +kernel
theorem test_timedec_malformed :
    ran 0x30000000 (onB [0x5A, 0x00, 0x00, 0x01, 0x01, 0x01, 0x00]) (fun t => (t.getV 0, t.ST)) = some (60, 0x08) := by
  decide +kernel
theorem test_timeenc :
    ran 0x31000000 (onV [56, 34, 21, 3, 15, 8, 25]) (firstB 7)
      = some [0x56, 0x34, 0x21, 0x03, 0x15, 0x08, 0x25] := by decide +kernel
theorem test_timeenc_after_reset : ran 0x31000000 State.reset State.ST = some 0x83 := by decide +kernel
theorem test_clkdec_12_pm :
    ran 0x3200000D (onBAt 13 [0x59, 0x59, 0x72]) (fun t => (t.getV 0, t.getV 1, t.getV 2)) = some (59, 59, 24) := by
  decide +kernel
theorem test_clkdec_14_rejected : ran 0x3200000E State.reset State.ST = some 0x83 := by decide +kernel
theorem test_clkenc : ran 0x33000000 (onV [5, 4, 23]) (firstB 3) = some [0x05, 0x04, 0x23] := by decide +kernel
theorem test_clkenc_minute_60 : ran 0x33000000 (onV [5, 60, 23]) State.ST = some 0x83 := by decide +kernel
theorem test_datedec :
    ran 0x34000000 (onB [0x07, 0x31, 0x92, 0x99]) fields = some [0, 0, 0, 7, 31, 12, 99] := by decide +kernel
theorem test_datedec_malformed :
    ran 0x3400000C (onBAt 12 [0x01, 0x0A, 0x01, 0x00]) (fun t => (t.getV 4, t.ST)) = some (10, 0x08) := by decide +kernel
theorem test_dateenc :
    ran 0x35000004 (onV [0, 0, 0, 1, 1, 1, 0]) (fun t => t.bytesFrom 4 4) = some [0x01, 0x01, 0x01, 0x00] := by
  decide +kernel
theorem test_dateenc_year_100 : ran 0x35000000 (onV [0, 0, 0, 1, 1, 1, 100]) State.ST = some 0x83 := by decide +kernel

/-! ## Alarms (95_test_vectors.md 2.5, 2.6) -/

theorem test_al1enc_modes :
    ran 0x36000F00 (onV [30, 15, 7, 5, 20]) (firstB 4) = some [0xB0, 0x95, 0x87, 0xA0]
    ∧ ran 0x36001000 (onV [30, 15, 7, 5, 20]) (firstB 4) = some [0x30, 0x15, 0x07, 0x45] := by decide +kernel
theorem test_al1enc_checks_the_date : ran 0x36000800 (onV [0, 30, 6]) State.ST = some 0x83 := by decide +kernel
theorem test_al2enc_modes :
    ran 0x37000700 (onV [0, 45, 6, 2, 20]) (firstB 3) = some [0xC5, 0x86, 0xA0]
    ∧ ran 0x37001000 (onV [0, 45, 6, 2, 20]) (firstB 3) = some [0x45, 0x06, 0x42] := by decide +kernel
theorem test_al2enc_alarm1_mode : ran 0x37000F00 (onV [0, 45, 6, 2, 20]) State.ST = some 0x83 := by decide +kernel
theorem test_alentest :
    ([0x03, 0x05, 0x06, 0xFF] : List Byte).map (fun x => ran 0x38000100 (onB [x]) fun t => t.ST.flag)
      = [some false, some true, some false, some true] := by decide +kernel
theorem test_alentest_2 :
    ([0x03, 0x05, 0x06, 0xFF] : List Byte).map (fun x => ran 0x38000200 (onB [x]) fun t => t.ST.flag)
      = [some false, some false, some true, some true] := by decide +kernel
theorem test_alenable_1 : ran 0x39000100 (onB [0x18]) (firstB 1) = some [0x1D] := by decide +kernel
theorem test_alenable_255 : ran 0x3900FF00 (onB [0x18]) (firstB 1) = some [0x1A] := by decide +kernel
theorem test_aldisable_1 : ran 0x3A000100 (onB [0xFF]) (firstB 1) = some [0xFE] := by decide +kernel
theorem test_aldisable_2 : ran 0x3A000200 (onB [0x07]) (firstB 1) = some [0x05] := by decide +kernel
theorem test_alfired_1 : ran 0x3B000100 (onB [0x03]) (fun t => (t.getB 0, t.ST)) = some (0x02, 0x10) := by decide +kernel
theorem test_alfired_2 : ran 0x3B000200 (onB [0x01]) (fun t => (t.getB 0, t.ST)) = some (0x01, 0x00) := by decide +kernel

/-! ## CRC and sensor frames (95_test_vectors.md 2.7 to 2.9) -/

theorem test_crc8_table :
    ([[], [0x00], [0xFF], [0xBE, 0xEF], [0x66, 0x66], [0x12, 0x34], [0x01, 0x02, 0x03, 0x04]] : List (List Byte)).map crc8
      = [0xFF, 0xAC, 0x00, 0x92, 0x93, 0x37, 0x29] := by decide +kernel
theorem test_crcinit : ran 0x40000000 (State.reset.setCRC 0x37) State.CRC = some 0xFF := by decide +kernel
theorem test_crcbyte : ran 0x41000001 ((onB [0x00, 0xEF]).setCRC 0x0C) State.CRC = some 0x92 := by decide +kernel
theorem test_crc8_16 : ran 0x42001000 State.reset (fun t => (t.CRC, t.ST)) = some (0xCF, 0x00) := by decide +kernel
theorem test_crc8_17_rejected :
    ran 0x42001100 (State.reset.setCRC 0x11) (fun t => (t.CRC, t.ST)) = some (0x11, 0x83) := by decide +kernel
theorem test_crcvfy_match : ran 0x43000200 (onB [0xBE, 0xEF, 0x92]) (fun t => (t.CRC, t.ST)) = some (0x92, 0x10) := by
  decide +kernel
theorem test_crcvfy_keeps_flag : ran 0x4300020E (State.reset.setST 0x10) State.ST = some 0x93 := by decide +kernel
theorem test_frmpair_one_fails :
    ran 0x44000000 ((onB [0x66, 0x66, 0x93, 0x12, 0x34, 0x00]).setW1 0x5EB8) (fun t => (t.W0, t.W1, t.ST))
      = some (0x6666, 0x5EB8, 0xA2) := by decide +kernel
theorem test_frmpair_passes :
    ran 0x4400000A (onBAt 10 [0xBE, 0xEF, 0x92, 0x62, 0x1A, 0x95]) (fun t => (t.W0, t.W1, t.ST))
      = some (0xBEEF, 0x621A, 0x60) := by decide +kernel
theorem test_frmser : ran 0x45000000 (onB [0xBE, 0xEF, 0x92, 0x12, 0x34, 0x37]) (fun t => (t.SN, t.ST))
    = some (0xBEEF1234, 0x60) := by decide +kernel
theorem test_frmser_fails : ran 0x45000000 (onB [0xBE, 0xEF, 0x92, 0x12, 0x34, 0x38]) (fun t => (t.SN, t.ST))
    = some (0x00000000, 0xA2) := by decide +kernel

/-! ## Host port and reset (95_test_vectors.md 2.9, 2.10) -/

theorem test_host_reads_after_reset :
    ([0x20, 0x21, 0x3F] : List HostAddr).map State.reset.hostRead = [0xFF, 0x00, 0x00] := by decide
/-- 2.9: the host reads 0x1C to 0x1F as BE EF 12 34. -/
theorem test_host_reads_sn :
    ([0x1C, 0x1D, 0x1E, 0x1F] : List HostAddr).map (State.reset.setSN 0xBEEF1234).hostRead
      = [0xBE, 0xEF, 0x12, 0x34] := by decide
theorem test_host_write_to_status_ignored :
    stepped (hosted (.write 0x21 0xFF) State.reset) State.ST = some 0x00 := by decide +kernel
theorem test_host_write_to_w0_ignored :
    stepped (hosted (.write 0x18 0x00) (State.reset.setW0 0x6666)) (fun t => t.hostRead 0x18) = some 0x66 := by
  decide +kernel
theorem test_reset_step :
    stepped (hosted .reset ((onB [0x12]).setST 0x83)) (fun t => (t.getB 0, t.CRC, t.ST)) = some (0x00, 0xFF, 0x00) := by
  decide +kernel
theorem test_fetch_word_runs :
    stepped (State.reset.withFetchWord 32 0x40000000) (fun t => (t.CRC, t.port)) = some (0xFF, []) := by decide +kernel

/-! ## Witnesses: the hypotheses of each statement, met. Encoding and the step -/

/-- The words of rows at the ends of their operand ranges. -/
theorem witness_EncodeWritesDecodedWord :
    decode 0x117FFF1F = .ok (.xrd 0x7F 0xFF 31) ∧ decode 0x11000000 = .ok (.xrd 0 0 0) := by decide

theorem witness_DecoderIsTheOpcodeTable :
    ∃ r ∈ tableRows, rowMatches 0x20000F0F r := by unfold rowMatches; decide

theorem witness_OperandsAreTheFieldsOfTheWord :
    ∀ m ∈ Mnemonic.all, ∃ i, decode m.matchWord = .ok i ∧ i.mnemonic = m := by
  intro m _
  exact ⟨operandsOf m m.matchWord, by cases m <;> decide, by cases m <;> rfl⟩

theorem witness_AssemblerAndDecoderAgree :
    assemble (SourceLine.mk .bcddec [.vReg 15, .bReg 0]) = some 0x20000F00 := by decide

theorem witness_StepRunsTheDecodedCommand :
    (hosted (.command 0x40000000) State.reset).port = .command 0x40000000 :: []
    ∧ decode 0x40000000 = .ok .crcinit := by decide

/-- An unassigned opcode, and a must-be-zero bit. -/
theorem witness_IllegalWordChangesStatusOnly :
    (∀ r ∈ tableRows, ¬rowMatches 0x02000000 r) ∧ (∀ r ∈ tableRows, ¬rowMatches 0x00000001 r) := by
  unfold rowMatches; decide

/-- Both sides: a word of no row, and a word of a row that raises another error. -/
theorem witness_IllegalCommandExactlyForWordsOfNoRow :
    (∃ t, step (hosted (.command 0xFF000000) State.reset) = .next t ∧ t.ST.err = 4)
    ∧ ∃ t, step (hosted (.command 0x3000000A) State.reset) = .next t ∧ t.ST.err = 3 :=
  ⟨⟨_, rfl, by decide +kernel⟩, ⟨_, rfl, by decide +kernel⟩⟩

theorem witness_IdleStepChangesNothing : State.reset.port = [] := rfl

/-- Words with the OP of NOP, CLRST and CRCINIT that are another word, at both ends. -/
theorem witness_words_of_format_N :
    (0x00000001#32).extractLsb' 24 8 = 0x00#8 ∧ (0x01FFFFFF#32).extractLsb' 24 8 = 0x01#8
    ∧ (0x40000001#32).extractLsb' 24 8 = 0x40#8 := by decide

/-! ## Witnesses: framer and BCD -/

theorem witness_next_draw :
    (drawing .busErr State.reset).nextDraw = .busErr ∧ (drawing (answer [0x1C]) State.reset).nextDraw = answer [0x1C]
    ∧ (drawing (answer [0x1C]) State.reset).nextDraw ≠ .busErr := by decide +kernel

/-- N = 16 and 31 are rejected; 0 and 15 pass, with a failing and with a completing transfer. -/
theorem witness_XwrSendsAddressAndPayload :
    (16#5).toNat > 15 ∧ (31#5).toNat > 15 ∧ (0#5).toNat ≤ 15 ∧ (15#5).toNat ≤ 15
    ∧ (drawing .busErr State.reset).nextDraw = .busErr
    ∧ (drawing (answer []) State.reset).nextDraw ≠ .busErr := by decide +kernel

/-- N = 0 and 17 are rejected; 1 and 16 pass, with a failing and with a completing transfer. -/
theorem witness_XrdReadsBytesIntoB :
    (0#5).toNat = 0 ∧ (17#5).toNat > 16 ∧ 1 ≤ (1#5).toNat ∧ (1#5).toNat ≤ 16 ∧ 1 ≤ (16#5).toNat ∧ (16#5).toNat ≤ 16
    ∧ (drawing .busErr State.reset).nextDraw = .busErr
    ∧ (drawing (.ok (Vector.replicate 16 0xA5)) State.reset).nextDraw = .ok (Vector.replicate 16 0xA5) := by
  decide +kernel

theorem witness_XcmdSendsTheCommandWord :
    (drawing .busErr State.reset).nextDraw = .busErr ∧ (drawing (answer []) State.reset).nextDraw ≠ .busErr := by
  decide +kernel

theorem witness_XrdrawReadsWithoutWritePhase :
    (0#5).toNat = 0 ∧ (17#5).toNat > 16 ∧ 1 ≤ (1#5).toNat ∧ (16#5).toNat ≤ 16
    ∧ (drawing .busErr State.reset).nextDraw = .busErr
    ∧ (drawing (.ok (Vector.replicate 16 0x5A)) State.reset).nextDraw = .ok (Vector.replicate 16 0x5A) := by
  decide +kernel

theorem witness_DecAndMalAreTheFormulas : mal 0x99 = false ∧ mal 0x9A = true ∧ mal 0xA0 = true := by decide

theorem witness_BcdRoundTrips : (99#8).toNat ≤ 99 ∧ (0#8).toNat ≤ 99 ∧ mal 0x99 = false ∧ mal 0x00 = false := by decide

theorem witness_BcddecDecodesOneByte : (8#4).toNat > 7 ∧ (7#4).toNat ≤ 7 ∧ (0#4).toNat ≤ 7 := by decide

/-- VR = 8, or the value 100, is rejected; VR = 7 with the value 99 passes. -/
theorem witness_BcdencEncodesOneValue :
    (8#4).toNat > 7 ∧ ((onV [100]).getV ((0#4).setWidth 3)).toNat > 99 ∧ (7#4).toNat ≤ 7
    ∧ ((onV [0, 0, 0, 0, 0, 0, 0, 99]).getV ((7#4).setWidth 3)).toNat ≤ 99 := by decide +kernel

/-! ## Witnesses: time, clock and date -/

/-- The greatest field values, and the least. -/
def latest : State := onV [59, 59, 23, 7, 31, 12, 99]

/-- The least field values. -/
def earliest : State := onV [0, 0, 0, 1, 1, 1, 0]

theorem witness_in_range :
    ¬clockOut latest ∧ ¬dateOut latest ∧ ¬clockOut earliest ∧ ¬dateOut earliest := by
  unfold clockOut dateOut; decide +kernel

theorem witness_out_of_range :
    clockOut (onV [60, 0, 0]) ∧ clockOut (onV [0, 60, 0]) ∧ clockOut (onV [0, 0, 24])
    ∧ dateOut (onV [0, 0, 0, 0, 1, 1, 0]) ∧ dateOut (onV [0, 0, 0, 8, 1, 1, 0]) ∧ dateOut (onV [0, 0, 0, 1, 0, 1, 0])
    ∧ dateOut (onV [0, 0, 0, 1, 32, 1, 0]) ∧ dateOut (onV [0, 0, 0, 1, 1, 0, 0]) ∧ dateOut (onV [0, 0, 0, 1, 1, 13, 0])
    ∧ dateOut (onV [0, 0, 0, 1, 1, 1, 100]) := by
  unfold clockOut dateOut; decide +kernel

theorem witness_TimedecDecodesTheTimeFrame : (10#4).toNat > 9 ∧ (9#4).toNat ≤ 9 ∧ (0#4).toNat ≤ 9 := by decide

theorem witness_TimeencEncodesTheTimeFrame :
    (10#4).toNat > 9 ∧ clockOut (onV [60, 0, 0, 1, 1, 1, 0]) ∧ dateOut State.reset
    ∧ (9#4).toNat ≤ 9 ∧ ¬clockOut latest ∧ ¬dateOut latest := by
  unfold clockOut dateOut; decide +kernel

theorem witness_ClkdecDecodesTheClockFrame : (14#4).toNat > 13 ∧ (13#4).toNat ≤ 13 := by decide

theorem witness_ClkencEncodesTheClockFrame :
    (14#4).toNat > 13 ∧ clockOut (onV [0, 0, 24]) ∧ (13#4).toNat ≤ 13 ∧ ¬clockOut latest := by
  unfold clockOut; decide +kernel

theorem witness_DatedecDecodesTheDateFrame : (13#4).toNat > 12 ∧ (12#4).toNat ≤ 12 := by decide

theorem witness_DateencEncodesTheDateFrame :
    (13#4).toNat > 12 ∧ dateOut (onV [0, 0, 0, 8, 1, 1, 0]) ∧ (12#4).toNat ≤ 12 ∧ ¬dateOut latest := by
  unfold dateOut; decide +kernel

/-- The three round trips at their last base, and a second state with the same B registers. -/
theorem witness_TimeFramesRoundTrip :
    (9#4).toNat ≤ 9 ∧ (13#4).toNat ≤ 13 ∧ (12#4).toNat ≤ 12 ∧ ¬clockOut latest ∧ ¬dateOut latest
    ∧ ¬clockOut earliest ∧ ¬dateOut earliest ∧ ∀ i : BIndex, latest.getB i = State.reset.getB i := by
  unfold clockOut dateOut; decide +kernel

/-! ## Witnesses: alarms -/

theorem witness_Al1encEncodesTheAlarm1Frame :
    (13#4).toNat > 12 ∧ 0x07#8 ∉ [0x0F#8, 0x0E, 0x0C, 0x08, 0x00, 0x10] ∧ clockOut (onV [60, 0, 0, 1, 1])
    ∧ dayOut 0x10 (onV [0, 0, 0, 8, 1]) ∧ dayOut 0x00 (onV [0, 0, 0, 1, 32]) ∧ (12#4).toNat ≤ 12
    ∧ 0x10#8 ∈ [0x0F#8, 0x0E, 0x0C, 0x08, 0x00, 0x10] ∧ ¬clockOut latest ∧ ¬dayOut 0x10 latest ∧ ¬dayOut 0x0F latest := by
  unfold clockOut dayOut; decide +kernel

theorem witness_Al2encEncodesTheAlarm2Frame :
    (14#4).toNat > 13 ∧ 0x0F#8 ∉ [0x07#8, 0x06, 0x04, 0x00, 0x10] ∧ ((onV [0, 60, 0]).getV 1).toNat > 59
    ∧ ((onV [0, 0, 24]).getV 2).toNat > 23 ∧ dayOut 0x10 (onV [0, 0, 0, 0, 1]) ∧ (13#4).toNat ≤ 13
    ∧ 0x07#8 ∈ [0x07#8, 0x06, 0x04, 0x00, 0x10]
    ∧ ¬((latest.getV 1).toNat > 59 ∨ (latest.getV 2).toNat > 23 ∨ dayOut 0x07 latest)
    ∧ ¬((latest.getV 1).toNat > 59 ∨ (latest.getV 2).toNat > 23 ∨ dayOut 0x10 latest) := by
  unfold dayOut; decide +kernel

/-! ## Witnesses: CRC and sensor frames -/

theorem witness_CrcPropertiesOfTheSpec : ([0xBE, 0xEF] : List Byte).length = ([0x00, 0x01] : List Byte).length := rfl

theorem witness_Crc8ComputesTheCrcOfARun :
    (17#8).toNat > 16 ∧ (15#4).toNat + (2#8).toNat > 16 ∧ (16#8).toNat ≤ 16 ∧ (0#4).toNat + (16#8).toNat ≤ 16
    ∧ (15#4).toNat + (1#8).toNat ≤ 16 := by decide

theorem witness_CrcvfyComparesWithTheNextByte :
    (16#8).toNat > 15 ∧ (14#4).toNat + (2#8).toNat + 1 > 16 ∧ (15#8).toNat ≤ 15
    ∧ (0#4).toNat + (15#8).toNat + 1 ≤ 16 ∧ (15#4).toNat + (0#8).toNat + 1 ≤ 16 := by decide

/-- Both frames pass; the first fails; the second fails. -/
theorem witness_frames :
    ¬frameFails 0 (onB [0x66, 0x66, 0x93, 0x5E, 0xB8, 0x0D]) ∧ frameFails 0 (onB [0x66, 0x66, 0x00, 0x12, 0x34, 0x37])
    ∧ frameFails 0 (onB [0x66, 0x66, 0x93, 0x12, 0x34, 0x00]) := by unfold frameFails; decide +kernel

theorem witness_FrmpairUpdatesEachPassingWord :
    (11#4).toNat > 10 ∧ (10#4).toNat ≤ 10
    ∧ (let s := onBAt 10 [0xBE, 0xEF, 0x92, 0x62, 0x1A, 0x95]
       crc8 [s.getB 10, s.getB (10 + 1)] = s.getB (10 + 2) ∧ crc8 [s.getB (10 + 3), s.getB (10 + 4)] = s.getB (10 + 5))
    ∧ (let s := onBAt 10 [0xBE, 0xEF, 0x93, 0x62, 0x1A, 0x95]
       ¬crc8 [s.getB 10, s.getB (10 + 1)] = s.getB (10 + 2))
    ∧ (let s := onBAt 10 [0xBE, 0xEF, 0x92, 0x62, 0x1A, 0x00]
       ¬crc8 [s.getB (10 + 3), s.getB (10 + 4)] = s.getB (10 + 5)) := by decide +kernel

theorem witness_FrmserAssemblesTheSerialNumber :
    (11#4).toNat > 10 ∧ (0#4).toNat ≤ 10
    ∧ (let s := onB [0x00, 0x00, 0x81, 0x00, 0x00, 0x81]
       crc8 [s.getB 0, s.getB (0 + 1)] = s.getB (0 + 2) ∧ crc8 [s.getB (0 + 3), s.getB (0 + 4)] = s.getB (0 + 5))
    ∧ (let s := onB [0x00, 0x00, 0x00, 0x00, 0x00, 0x81]
       ¬crc8 [s.getB 0, s.getB (0 + 1)] = s.getB (0 + 2))
    ∧ (let s := onB [0x00, 0x00, 0x81, 0x00, 0x00, 0x00]
       ¬crc8 [s.getB (0 + 3), s.getB (0 + 4)] = s.getB (0 + 5)) := by decide +kernel

/-! ## Witnesses: whole-machine rules -/

/-- A legal state whose step records a transaction. -/
theorem witness_StepKeepsStatusAndEventsLegal :
    Inv (hosted (.command 0x12442400) (drawing .busErr State.reset))
    ∧ ∃ t, step (hosted (.command 0x12442400) (drawing .busErr State.reset)) = .next t ∧ t.events.length = 1 :=
  ⟨⟨by decide +kernel, by intro e he; exact absurd he (by simp [hosted, drawing, State.reset])⟩,
    ⟨_, rfl, by decide +kernel⟩⟩

/-- NOP writes none of the registers named. -/
theorem witness_RegistersHaveTheirNamedWriters :
    (∃ t, exec .nop State.reset = .next t) ∧ writesB Instr.nop.mnemonic = false
    ∧ (∀ j, writesV Instr.nop.mnemonic j = false) ∧ Instr.nop.mnemonic ≠ .frmpair ∧ Instr.nop.mnemonic ≠ .frmser
    ∧ writesCrc Instr.nop.mnemonic = false :=
  ⟨⟨_, rfl⟩, by decide, by decide, by decide, by decide, by decide⟩

/-- A decode that sets MAL; a command that writes no flag; one that writes FLAG and fails; one that writes no FV; one
that writes FV and fails its operand check. -/
theorem witness_StatusFlagsHaveTheirNamedWriters :
    (∃ t, exec (.bcddec 0 0) (onB [0xFF]) = .next t ∧ t.ST.mal = true)
    ∧ writesFlag Instr.nop.mnemonic = false
    ∧ (∃ t, exec (.crcvfy 15 2) State.reset = .next t ∧ t.ST.err ≠ 0)
    ∧ writesFv Instr.nop.mnemonic = false ∧ validationCause (.frmpair 11) State.reset :=
  ⟨⟨_, rfl, by decide +kernel⟩, rfl, ⟨_, rfl, by decide +kernel⟩, rfl, by unfold validationCause; decide⟩

/-- Reset, CLRST, another command, a host write and an idle step. -/
theorem witness_StickyBitRecordsErrors :
    ∀ p ∈ [[HostOp.reset], [.command 0x01000000], [.command 0x02000000], [.write 0 0], []],
      ∃ t, step { State.reset with port := p } = .next t := by
  intro p hp
  simp only [List.mem_cons, List.not_mem_nil, or_false] at hp
  rcases hp with rfl | rfl | rfl | rfl | rfl <;> exact ⟨_, rfl⟩

/-- FRMPAIR with both frames failing; FRMPAIR past its base range; a framer command that fails. -/
theorem witness_ErrorsArePrecise :
    (∃ t, exec (.frmpair 0) State.reset = .next t ∧ t.ST.err ≠ 0 ∧ t.ST.fv0 = false ∧ t.ST.fv1 = false)
    ∧ (∃ t, exec (.frmpair 11) State.reset = .next t ∧ t.ST.err ≠ 0 ∧ validationCause (.frmpair 11) State.reset)
    ∧ (∃ t, exec (.xrd 0 0 1) (drawing .busErr State.reset) = .next t ∧ t.ST.err ≠ 0)
    ∧ Instr.mnemonic (.xrd 0 0 1) ≠ .frmpair ∧ writesFv (Instr.mnemonic (.xrd 0 0 1)) = false :=
  ⟨⟨_, rfl, by decide +kernel, by decide +kernel, by decide +kernel⟩,
    ⟨_, rfl, by decide +kernel, by unfold validationCause; decide⟩, ⟨_, rfl, by decide +kernel⟩, by decide, rfl⟩

/-- Both sides of R233, R231 and R232. -/
theorem witness_errors_both_ways :
    (∃ t, exec (.xwr 0 0 16) State.reset = .next t ∧ t.ST.err = 3)
    ∧ (∃ t, exec (.xwr 0 0 15) (drawing (answer []) State.reset) = .next t ∧ t.ST.err = 0)
    ∧ (∃ t, exec (.xcmd 0 0) (drawing .busErr State.reset) = .next t ∧ t.ST.err = 1)
    ∧ (∃ t, exec (.frmser 10) State.reset = .next t ∧ t.ST.err = 2)
    ∧ ∃ t, exec (.frmser 10) (onBAt 10 [0xBE, 0xEF, 0x92, 0x62, 0x1A, 0x95]) = .next t ∧ t.ST.err = 0 :=
  ⟨⟨_, rfl, by decide +kernel⟩, ⟨_, rfl, by decide +kernel⟩, ⟨_, rfl, by decide +kernel⟩, ⟨_, rfl, by decide +kernel⟩,
    ⟨_, rfl, by decide +kernel⟩⟩

/-- The four framer commands at the ends of their ranges; one past its range; another command; a word of no row. -/
theorem witness_OneTransactionPerFramerCommand :
    (∀ i ∈ [Instr.xwr 0 0 15, .xrd 0 0 16, .xcmd 0 0, .xrdraw 0 1],
      isFramer i.mnemonic = true ∧ ¬validationCause i State.reset ∧ ∃ t, exec i State.reset = .next t)
    ∧ validationCause (.xrd 0 0 0) State.reset ∧ isFramer Instr.nop.mnemonic = false
    ∧ decode 0x46000000 = .error .unassignedOpcode := by
  refine ⟨?_, by unfold validationCause; decide, rfl, by decide⟩
  intro i hi
  simp only [List.mem_cons, List.not_mem_nil, or_false] at hi
  rcases hi with rfl | rfl | rfl | rfl
  all_goals exact ⟨rfl, by unfold validationCause; decide, ⟨_, rfl⟩⟩

/-- The first and the last address of each region, as host operations. -/
theorem witness_HostReadAnswersTheRegisterMap :
    (hosted (.read 0x00) State.reset).port = .read 0x00 :: []
    ∧ (0x00#6).toNat = (0#4).toNat ∧ (0x0F#6).toNat = (15#4).toNat
    ∧ (0x10#6).toNat = 16 + (0#3).toNat ∧ (0x17#6).toNat = 16 + (7#3).toNat
    ∧ 0x22 ≤ (0x22#6).toNat ∧ 0x22 ≤ (0x3F#6).toNat := by decide

theorem witness_HostWriteChangesOneRegister :
    (hosted (.write 0x20 0x0C) State.reset).port = .write 0x20 0x0C :: [] := by decide

theorem witness_ResetSetsEveryRegister : (hosted .reset (onB [0x12])).port = .reset :: [] := by decide +kernel

theorem witness_ResetKeepsWhatIsOutsideTheBlock :
    (hosted .reset (onB [0x12])).port = .reset :: [] ∧ ∃ t, step (hosted .reset (onB [0x12])) = .next t :=
  ⟨by decide +kernel, ⟨_, rfl⟩⟩

end Sys2Proof.Tests
end

/-! ## Settling the state family (10_state.md): what a command does once its operands are checked -/

namespace Sys2Proof.Machine

open Sys2Proof.Safety

/-! ### A command is its operand check and its rule -/

/-- The operand check of a command (60_exceptions.md R233); `true` where the command has none. -/
def operandsOk (i : Instr) (s : State) : Bool :=
  match i with
  | .xwr _ _ n => writeLengthOk n
  | .xrd _ _ n | .xrdraw _ n => readLengthOk n
  | .bcddec vr _ => valueIndexOk vr
  | .bcdenc _ vr => valueIndexOk vr && bcdOk (s.getV (valueIndex vr))
  | .timedec br => frameFits br 7
  | .timeenc br => frameFits br 7 && s.clockOk && s.dateFieldsOk
  | .clkdec br => frameFits br 3
  | .clkenc br => frameFits br 3 && s.clockOk
  | .datedec br => frameFits br 4
  | .dateenc br => frameFits br 4 && s.dateFieldsOk
  | .al1enc br m =>
      frameFits br 4 && alarm1Modes.contains m && secondOk (s.getV vSecond) && minuteOk (s.getV vMinute)
        && hourOk (s.getV vHour) && alarmDayOk (s.getV vWeekday) (s.getV vDate) m
  | .al2enc br m =>
      frameFits br 3 && alarm2Modes.contains m && minuteOk (s.getV vMinute) && hourOk (s.getV vHour)
        && alarmDayOk (s.getV vWeekday) (s.getV vDate) m
  | .crc8 br n => frameFits br n.toNat
  | .crcvfy br n => frameFits br (n.toNat + 1)
  | .frmpair br | .frmser br => frameFits br 6
  | .nop | .clrst | .xcmd _ _ | .alentest _ _ | .alenable _ _ | .aldisable _ _ | .alfired _ _ | .crcinit
  | .crcbyte _ => true

/-- What a command does to the state past the prologue when its operands pass. -/
def rule (i : Instr) (s : State) : State :=
  match i with
  | .nop => s
  | .clrst => s.setStk false
  | .xwr sa ra n => s.transact sa (some (ra :: s.bytesFrom 0 n.toNat)) 0
  | .xrd sa ra n => s.transact sa (some [ra]) n.toNat
  | .xcmd sa cw => s.transact sa (some [cw.extractLsb' 8 8, cw.extractLsb' 0 8]) 0
  | .xrdraw sa n => s.transact sa none n.toNat
  | .bcddec vr br => (s.setV (valueIndex vr) (dec (s.getB br))).setMal (mal (s.getB br))
  | .bcdenc br vr => s.setB br (enc (s.getV (valueIndex vr)))
  | .timedec br => ((s.decodeClock br).decodeDate (br + 3)).setMal (s.malClock br || s.malDate (br + 3))
  | .timeenc br => s.writeBytes br (s.clockFrame ++ s.dateFrame)
  | .clkdec br => (s.decodeClock br).setMal (s.malClock br)
  | .clkenc br => s.writeBytes br s.clockFrame
  | .datedec br => (s.decodeDate br).setMal (s.malDate br)
  | .dateenc br => s.writeBytes br s.dateFrame
  | .al1enc br m => s.writeBytes br (s.alarm1Frame m)
  | .al2enc br m => s.writeBytes br (s.alarm2Frame m)
  | .alentest br which => s.setFlag ((s.getB br).getLsbD 2 && alarmBit (s.getB br) which)
  | .alenable br which => s.setB br (s.getB br ||| (if which = 1 then 0x05 else 0x02))
  | .aldisable br which => s.setB br (clearAlarmBit (s.getB br) which)
  | .alfired br which => (s.setFlag (alarmBit (s.getB br) which)).setB br (clearAlarmBit (s.getB br) which)
  | .crcinit => s.setCRC Config.crcInit
  | .crcbyte br => s.setCRC (crcStep s.CRC (s.getB br))
  | .crc8 br n => s.setCRC (crc8 (s.bytesFrom br n.toNat))
  | .crcvfy br n =>
      (s.setCRC (crc8 (s.bytesFrom br n.toNat))).setFlag
        (verify (s.bytesFrom br n.toNat) (s.getB (br + BitVec.ofNat 4 n.toNat)))
  | .frmpair br =>
      let t := (s.updatePair br).setFrameValid (s.frameOk br) (s.frameOk (br + 3))
      t.acceptedOr (s.frameOk br && s.frameOk (br + 3)) t
  | .frmser br =>
      let t := s.setFrameValid (s.frameOk br) (s.frameOk (br + 3))
      t.acceptedOr (s.frameOk br && s.frameOk (br + 3))
        (t.setSN (serialOf (s.frameWord br) (s.frameWord (br + 3))))

/-- Every command is the prologue, its operand check and its rule (30_encoding.md R86). -/
theorem exec_eq (i : Instr) (s : State) :
    exec i s = .next (s.prologue.checked (operandsOk i s) (rule i s.prologue)) := by
  cases i <;> rfl

/-- The six alarm-1 modes as numbers (43_field_codec.md R162). -/
theorem alarm1Modes_contains_iff (m : Byte) :
    alarm1Modes.contains m = true ↔ m.toNat ∈ [0x0F, 0x0E, 0x0C, 0x08, 0x00, 0x10] := by
  revert m; decide +kernel

/-- The five alarm-2 modes as numbers (43_field_codec.md R166). -/
theorem alarm2Modes_contains_iff (m : Byte) :
    alarm2Modes.contains m = true ↔ m.toNat ∈ [0x07, 0x06, 0x04, 0x00, 0x10] := by
  revert m; decide +kernel

/-! The value checks as numbers (42_bcd.md R142, 43_field_codec.md R158). -/

theorem bcdOk_iff (v : Byte) : bcdOk v = true ↔ v.toNat ≤ 99 := decide_eq_true_iff
theorem secondOk_iff (v : Byte) : secondOk v = true ↔ v.toNat ≤ 59 := decide_eq_true_iff
theorem minuteOk_iff (v : Byte) : minuteOk v = true ↔ v.toNat ≤ 59 := decide_eq_true_iff
theorem hourOk_iff (v : Byte) : hourOk v = true ↔ v.toNat ≤ 23 := decide_eq_true_iff

/-- The operand check passes exactly where R233 gives no cause for a ValidationError. -/
theorem operandsOk_iff (i : Instr) (s : State) : operandsOk i s = true ↔ ¬validationCause i s := by
  cases i
  case nop | clrst | xcmd | alentest | alenable | aldisable | alfired | crcinit | crcbyte => exact iff_of_true rfl id
  all_goals
    simp only [operandsOk, validationCause, Bool.and_eq_true, frameFits_iff, writeLengthOk_iff, readLengthOk_iff,
      valueIndexOk_iff, valueIndex, bcdOk_iff, clockOk_iff, dateFieldsOk_iff, alarm1Modes_contains_iff,
      alarm2Modes_contains_iff, alarmDayOk_iff, secondOk_iff, minuteOk_iff, hourOk_iff, clockOut]
    grind

/-- All that a command can end in: ValidationError past the prologue where R233 gives a cause for it, and its rule's
state past the prologue where R233 gives none. -/
theorem exec_cases {i : Instr} {s t : State} (h : exec i s = .next t) :
    (validationCause i s ∧ t = s.prologue.raise .validationError)
      ∨ (¬validationCause i s ∧ t = rule i s.prologue) := by
  rw [exec_eq, Host.Outcome.next.injEq] at h
  rcases checked_cases s.prologue (operandsOk i s) (rule i s.prologue) with ⟨hok, he⟩ | ⟨hok, he⟩
  · exact .inr ⟨(operandsOk_iff i s).mp hok, h.symm.trans he⟩
  · have hv : validationCause i s := by
      by_contra hv
      exact Bool.false_ne_true (hok.symm.trans ((operandsOk_iff i s).mpr hv))
    exact .inl ⟨hv, h.symm.trans he⟩

/-- The prologue writes STATUS alone, so it does not change why an operand check fails. -/
theorem validationCause_prologue (i : Instr) (s : State) : validationCause i s.prologue ↔ validationCause i s := by
  cases i <;> exact Iff.rfl

/-! ### What the shared operations leave unchanged -/

/-- Both ends of a command on frames keep a field that the command's writes and the raise keep. -/
theorem acceptedOr_keeps {α : Type} (f : State → α) {s t body : State} (ok : Bool)
    (hraise : f (t.raise .checksumError) = f s) (hbody : f body = f s) : f (t.acceptedOr ok body) = f s := by
  rcases acceptedOr_cases t ok body with ⟨-, h⟩ | ⟨-, h⟩
  · rw [h, hbody]
  · rw [h, hraise]

section UpdatePair

variable (s : State) (b : BIndex)

/-! FRMPAIR's update of the W registers leaves every other field (44_crc.md R204). -/

@[simp] theorem getB_updatePair (j : BIndex) : (s.updatePair b).getB j = s.getB j := by simp [updatePair_eq]
@[simp] theorem getV_updatePair (j : VIndex) : (s.updatePair b).getV j = s.getV j := by simp [updatePair_eq]
@[simp] theorem SN_updatePair : (s.updatePair b).SN = s.SN := by simp [updatePair_eq]
@[simp] theorem CRC_updatePair : (s.updatePair b).CRC = s.CRC := by simp [updatePair_eq]
@[simp] theorem ST_updatePair : (s.updatePair b).ST = s.ST := by simp [updatePair_eq]
@[simp] theorem events_updatePair : (s.updatePair b).events = s.events := by simp [updatePair_eq]
@[simp] theorem port_updatePair : (s.updatePair b).port = s.port := by simp [updatePair_eq]
@[simp] theorem draws_updatePair : (s.updatePair b).draws = s.draws := by simp [updatePair_eq]
@[simp] theorem drawCount_updatePair : (s.updatePair b).drawCount = s.drawCount := by simp [updatePair_eq]
@[simp] theorem hostReads_updatePair : (s.updatePair b).hostReads = s.hostReads := by simp [updatePair_eq]

end UpdatePair

/-- Both ends of a transaction keep a field that the record of the transaction, the raise and the writes to B keep. -/
theorem transact_keeps {α : Type} (f : State → α) {s : State} (sa : SlaveAddr) (wr : Option (List Byte)) (rlen : Nat)
    (hraise : f ((s.transferred sa wr rlen).raise .busError) = f s)
    (hwrite : ∀ rd, f ((s.transferred sa wr rlen).writeBytes 0 rd) = f s) :
    f (s.transact sa wr rlen) = f s := by
  unfold State.transact
  split
  · exact hraise
  · exact hwrite _

section Transact

variable (s : State) (sa : SlaveAddr) (wr : Option (List Byte)) (rlen : Nat)

@[simp] theorem getV_transact (j : VIndex) : (s.transact sa wr rlen).getV j = s.getV j :=
  transact_keeps (·.getV j) sa wr rlen (by simp) (by simp)
@[simp] theorem W0_transact : (s.transact sa wr rlen).W0 = s.W0 :=
  transact_keeps (·.W0) sa wr rlen (by simp) (by simp)
@[simp] theorem W1_transact : (s.transact sa wr rlen).W1 = s.W1 :=
  transact_keeps (·.W1) sa wr rlen (by simp) (by simp)
@[simp] theorem SN_transact : (s.transact sa wr rlen).SN = s.SN :=
  transact_keeps (·.SN) sa wr rlen (by simp) (by simp)
@[simp] theorem CRC_transact : (s.transact sa wr rlen).CRC = s.CRC :=
  transact_keeps (·.CRC) sa wr rlen (by simp) (by simp)
@[simp] theorem port_transact : (s.transact sa wr rlen).port = s.port :=
  transact_keeps (·.port) sa wr rlen (by simp) (by simp)
@[simp] theorem hostReads_transact : (s.transact sa wr rlen).hostReads = s.hostReads :=
  transact_keeps (·.hostReads) sa wr rlen (by simp) (by simp)
@[simp] theorem flag_transact : (s.transact sa wr rlen).ST.flag = s.ST.flag :=
  transact_keeps (·.ST.flag) sa wr rlen (by simp) (by simp)
@[simp] theorem fv0_transact : (s.transact sa wr rlen).ST.fv0 = s.ST.fv0 :=
  transact_keeps (·.ST.fv0) sa wr rlen (by simp) (by simp)
@[simp] theorem fv1_transact : (s.transact sa wr rlen).ST.fv1 = s.ST.fv1 :=
  transact_keeps (·.ST.fv1) sa wr rlen (by simp) (by simp)

/-- A transaction without a read phase writes no B register, whatever its result. -/
@[simp] theorem getB_transact_zero (j : BIndex) : (s.transact sa wr 0).getB j = s.getB j := by
  rcases transact_cases s sa wr 0 (by omega) with ⟨-, h⟩ | ⟨rd, -, hlen, h⟩
  · simp [h]
  · simp [h, List.length_eq_zero_iff.mp hlen, State.writeBytes]

/-- A transaction is recorded as one event, whatever its result (20_memory.md R60). -/
@[simp] theorem events_transact :
    (s.transact sa wr rlen).events = s.events ++ [⟨sa, wr, rlen, s.transferResult rlen⟩] := by
  unfold State.transact
  split <;> simp

/-- A transaction leaves STATUS as it was, or with a BusError raised (41_framer.md R112). -/
theorem transact_status :
    (s.transact sa wr rlen).ST = s.ST ∨ (s.transact sa wr rlen).ST = (s.raise .busError).ST := by
  unfold State.transact
  split
  · exact .inr rfl
  · exact .inl (ST_writeBytes _ _ _)

end Transact

section Decode

variable (s : State) (b : BIndex)

/-! Decoding a sub-frame of the time frame writes V alone (43_field_codec.md R151). -/

@[simp] theorem getB_decodeClock (j : BIndex) : (s.decodeClock b).getB j = s.getB j := rfl
@[simp] theorem W0_decodeClock : (s.decodeClock b).W0 = s.W0 := rfl
@[simp] theorem W1_decodeClock : (s.decodeClock b).W1 = s.W1 := rfl
@[simp] theorem SN_decodeClock : (s.decodeClock b).SN = s.SN := rfl
@[simp] theorem CRC_decodeClock : (s.decodeClock b).CRC = s.CRC := rfl
@[simp] theorem ST_decodeClock : (s.decodeClock b).ST = s.ST := rfl
@[simp] theorem events_decodeClock : (s.decodeClock b).events = s.events := rfl
@[simp] theorem port_decodeClock : (s.decodeClock b).port = s.port := rfl
@[simp] theorem draws_decodeClock : (s.decodeClock b).draws = s.draws := rfl
@[simp] theorem drawCount_decodeClock : (s.decodeClock b).drawCount = s.drawCount := rfl
@[simp] theorem hostReads_decodeClock : (s.decodeClock b).hostReads = s.hostReads := rfl

@[simp] theorem getB_decodeDate (j : BIndex) : (s.decodeDate b).getB j = s.getB j := rfl
@[simp] theorem W0_decodeDate : (s.decodeDate b).W0 = s.W0 := rfl
@[simp] theorem W1_decodeDate : (s.decodeDate b).W1 = s.W1 := rfl
@[simp] theorem SN_decodeDate : (s.decodeDate b).SN = s.SN := rfl
@[simp] theorem CRC_decodeDate : (s.decodeDate b).CRC = s.CRC := rfl
@[simp] theorem ST_decodeDate : (s.decodeDate b).ST = s.ST := rfl
@[simp] theorem events_decodeDate : (s.decodeDate b).events = s.events := rfl
@[simp] theorem port_decodeDate : (s.decodeDate b).port = s.port := rfl
@[simp] theorem draws_decodeDate : (s.decodeDate b).draws = s.draws := rfl
@[simp] theorem drawCount_decodeDate : (s.decodeDate b).drawCount = s.drawCount := rfl
@[simp] theorem hostReads_decodeDate : (s.decodeDate b).hostReads = s.hostReads := rfl

end Decode

/-- The clock sub-frame decodes into V0 to V2 alone (43_field_codec.md R154). -/
theorem getV_decodeClock_of_gt (s : State) (b : BIndex) {j : VIndex} (h : 2 < j.toNat) :
    (s.decodeClock b).getV j = s.getV j := by
  have h0 : j ≠ vSecond := by bv_omega
  have h1 : j ≠ vMinute := by bv_omega
  have h2 : j ≠ vHour := by bv_omega
  simp only [State.decodeClock, getV_setV, h0, h1, h2, if_false]

/-- The date sub-frame decodes into V3 to V6 alone (43_field_codec.md R156). -/
theorem getV_decodeDate_of_outside (s : State) (b : BIndex) {j : VIndex} (h : j.toNat < 3 ∨ 6 < j.toNat) :
    (s.decodeDate b).getV j = s.getV j := by
  have h3 : j ≠ vWeekday := by bv_omega
  have h4 : j ≠ vDate := by bv_omega
  have h5 : j ≠ vMonth := by bv_omega
  have h6 : j ≠ vYear := by bv_omega
  simp only [State.decodeDate, getV_setV, h3, h4, h5, h6, if_false]

/-! ### The writers of each register (10_state.md R20 to R25) -/

/-- Only the commands of R20 write B. -/
theorem getB_rule {i : Instr} (h : writesB i.mnemonic = false) (s : State) (j : BIndex) :
    (rule i s).getB j = s.getB j := by
  cases i
  case xrd | xrdraw | bcdenc | timeenc | clkenc | dateenc | al1enc | al2enc | alenable | aldisable | alfired =>
    exact Bool.noConfusion h
  case frmpair | frmser => exact acceptedOr_keeps (·.getB j) _ (by simp) (by simp)
  all_goals simp [rule]

/-- Only the decode commands write V, each the V registers of its own frame (R21). -/
theorem getV_rule {i : Instr} {j : VIndex} (h : writesV i.mnemonic j = false) (s : State) :
    (rule i s).getV j = s.getV j := by
  cases i
  case bcddec => exact Bool.noConfusion h
  case timedec br =>
    have hj : 6 < j.toNat := by simpa [writesV, Instr.mnemonic] using h
    simp [rule, getV_decodeDate_of_outside _ _ (.inr hj), getV_decodeClock_of_gt _ _ (show 2 < j.toNat by omega)]
  case clkdec br =>
    have hj : 2 < j.toNat := by simpa [writesV, Instr.mnemonic] using h
    simp [rule, getV_decodeClock_of_gt _ _ hj]
  case datedec br =>
    have hj : j.toNat < 3 ∨ 6 < j.toNat := by
      simp [writesV, Instr.mnemonic] at h
      omega
    simp [rule, getV_decodeDate_of_outside _ _ hj]
  case frmpair | frmser => exact acceptedOr_keeps (·.getV j) _ (by simp) (by simp)
  all_goals simp [rule]

/-- Only FRMPAIR writes W0 and W1 (R23). -/
theorem sameW_rule {i : Instr} (h : i.mnemonic ≠ .frmpair) (s : State) : sameW s (rule i s) := by
  cases i
  case frmpair => exact absurd rfl h
  case frmser => exact ⟨acceptedOr_keeps (·.W0) _ rfl rfl, acceptedOr_keeps (·.W1) _ rfl rfl⟩
  all_goals simp [sameW, rule]

/-- Only FRMSER writes SN (R24). -/
theorem SN_rule {i : Instr} (h : i.mnemonic ≠ .frmser) (s : State) : (rule i s).SN = s.SN := by
  cases i
  case frmser => exact absurd rfl h
  case frmpair => exact acceptedOr_keeps (·.SN) _ (by simp) (by simp)
  all_goals simp [rule]

/-- Only the four CRC commands write CRC (R25). -/
theorem CRC_rule {i : Instr} (h : writesCrc i.mnemonic = false) (s : State) : (rule i s).CRC = s.CRC := by
  cases i
  case crcinit | crcbyte | crc8 | crcvfy => exact Bool.noConfusion h
  case frmpair | frmser => exact acceptedOr_keeps (·.CRC) _ (by simp) (by simp)
  all_goals simp [rule]

/-- No command touches what the host has pending or has read (20_memory.md R55, R65). -/
theorem sameHost_rule (i : Instr) (s : State) : sameHost s (rule i s) := by
  cases i
  case frmpair | frmser =>
    exact ⟨acceptedOr_keeps (·.port) _ (by simp) (by simp), acceptedOr_keeps (·.hostReads) _ (by simp) (by simp)⟩
  all_goals simp [sameHost, rule]

/-- Settles O47: a failed operand check writes STATUS alone, and past it each register has its writers among the rules. -/
theorem registersHaveTheirNamedWriters : Obligations.RegistersHaveTheirNamedWriters := by
  intro i s t h
  rcases exec_cases h with ⟨-, rfl⟩ | ⟨-, rfl⟩
  · exact ⟨fun _ _ => rfl, fun _ _ => rfl, fun _ => ⟨rfl, rfl⟩, fun _ => rfl, fun _ => rfl, rfl, rfl⟩
  · exact ⟨fun hB => getB_rule hB s.prologue, fun _ hV => getV_rule hV s.prologue,
      fun hW => sameW_rule hW s.prologue, fun hS => SN_rule hS s.prologue, fun hC => CRC_rule hC s.prologue,
      sameHost_rule i s.prologue⟩

/-! ### STATUS after a command (10_state.md R28 to R32) -/

/-- Only ALENTEST, ALFIRED and CRCVFY write FLAG (R30). -/
theorem flag_rule {i : Instr} (h : writesFlag i.mnemonic = false) (s : State) : (rule i s).ST.flag = s.ST.flag := by
  cases i
  case alentest | alfired | crcvfy => exact Bool.noConfusion h
  case frmpair | frmser => exact acceptedOr_keeps (·.ST.flag) _ (by simp) (by simp)
  all_goals simp [rule]

/-- Only FRMPAIR and FRMSER write FV0 and FV1 (R31). -/
theorem fv_rule {i : Instr} (h : writesFv i.mnemonic = false) (s : State) :
    (rule i s).ST.fv0 = s.ST.fv0 ∧ (rule i s).ST.fv1 = s.ST.fv1 := by
  cases i
  case frmpair | frmser => exact Bool.noConfusion h
  all_goals simp [rule]

/-- The writers of FLAG raise no error past their operand checks (R30). -/
theorem err_rule_of_writesFlag {i : Instr} (h : writesFlag i.mnemonic = true) (s : State) :
    (rule i s).ST.err = s.ST.err := by
  cases i
  case alentest | alfired | crcvfy => simp [rule]
  all_goals exact Bool.noConfusion h

/-- An error raised where MAL is clear leaves its code, MAL clear and STK set (00_scope.md R12). -/
theorem raised_raise {s : State} (h : s.ST.mal = false) (e : ErrorClass) : raised (s.raise e) e := by
  simp [raised, h]

theorem raised_congr {s t : State} {e : ErrorClass} (hst : t.ST = s.ST) (h : raised s e) : raised t e := by
  rwa [raised, hst]

/-- How a command leaves STATUS when it raises no error: ERR 0, STK as before but for CLRST, MAL set by a decode
command alone (R28, R29, R32). -/
def endedWell (i : Instr) (s t : State) : Prop :=
  t.ST.err = 0 ∧ (i ≠ .clrst → t.ST.stk = s.ST.stk) ∧ (t.ST.mal = true → isDecode i.mnemonic = true)

/-- A transaction from a clear STATUS leaves it clear, or has raised BusError (41_framer.md R112). -/
theorem transact_ends (i : Instr) {s : State} (he : s.ST.err = 0) (hm : s.ST.mal = false)
    (sa : SlaveAddr) (wr : Option (List Byte)) (rlen : Nat) :
    endedWell i s (s.transact sa wr rlen) ∨ ∃ e, raised (s.transact sa wr rlen) e := by
  rcases transact_status s sa wr rlen with h | h
  · exact .inl (by simp [endedWell, h, he, hm])
  · exact .inr ⟨.busError, raised_congr h (raised_raise hm _)⟩

/-- A command on frames ends as its last write does, or has raised ChecksumError (44_crc.md R204, R205). -/
theorem acceptedOr_ends {i : Instr} {s t body : State} (ok : Bool) (hbody : endedWell i s body)
    (hm : t.ST.mal = false) :
    endedWell i s (t.acceptedOr ok body) ∨ ∃ e, raised (t.acceptedOr ok body) e := by
  rcases acceptedOr_cases t ok body with ⟨-, h⟩ | ⟨-, h⟩
  · exact .inl (h.symm ▸ hbody)
  · exact .inr ⟨.checksumError, h.symm ▸ raised_raise hm _⟩

/-- A rule run past the prologue ends well or has raised an error. -/
theorem rule_ends (i : Instr) {s : State} (he : s.ST.err = 0) (hm : s.ST.mal = false) :
    endedWell i s (rule i s) ∨ ∃ e, raised (rule i s) e := by
  cases i
  case xwr | xrd | xcmd | xrdraw => exact transact_ends _ he hm _ _ _
  case frmpair br | frmser br => exact acceptedOr_ends _ (by simp [endedWell, he, hm]) (by simp [hm])
  all_goals exact .inl (by simp [endedWell, rule, isDecode, Instr.mnemonic, he, hm])

/-- A command ends well or has raised an error (00_scope.md R12). -/
theorem exec_ends {i : Instr} {s t : State} (h : exec i s = .next t) :
    endedWell i s t ∨ ∃ e, raised t e := by
  have hm : s.prologue.ST.mal = false := by simp
  rcases exec_cases h with ⟨-, rfl⟩ | ⟨-, rfl⟩
  · exact .inr ⟨.validationError, raised_raise hm _⟩
  · simpa [endedWell] using rule_ends i (s := s.prologue) (by simp) hm

/-- Settles O48: MAL by how a command ends, FLAG and FV0, FV1 by the writers among the rules. -/
theorem statusFlagsHaveTheirNamedWriters : Obligations.StatusFlagsHaveTheirNamedWriters := by
  intro i s t h
  refine ⟨fun hmal => ?_, fun hflag => ?_, fun hfv => ?_⟩
  · rcases exec_ends h with ⟨herr, -, hdec⟩ | ⟨e, -, hm, -⟩
    · exact ⟨hdec hmal, herr⟩
    · exact absurd (hm.symm.trans hmal) Bool.false_ne_true
  · rcases exec_cases h with ⟨-, rfl⟩ | ⟨-, rfl⟩
    · simp
    · have hw : writesFlag i.mnemonic = false := by
        refine hflag.elim id fun herr => Bool.eq_false_iff.mpr fun hw => herr ?_
        simp [err_rule_of_writesFlag hw]
      simp [flag_rule hw]
  · rcases exec_cases h with ⟨-, rfl⟩ | ⟨hv, rfl⟩
    · simp
    · simp [fv_rule (hfv.resolve_right hv)]

theorem decode_clrst : decode 0x01000000 = .ok .clrst := by decide

/-- The word of CLRST and no other decodes to CLRST (45_system.md R221). -/
theorem eq_clrst_iff_of_decode {w : Word32} {i : Instr} (h : decode w = .ok i) : i = .clrst ↔ w = 0x01000000 := by
  constructor
  · rintro rfl
    unfold decode at h
    split at h
    · cases h
    next m _ =>
    split at h
    · next hmask =>
      have hm : m = .clrst := by
        rw [← operandsOf_mnemonic m w, Except.ok.inj h]
        rfl
      subst hm
      calc w = w &&& BitVec.allOnes 32 := BitVec.and_allOnes.symm
        _ = 0x01000000 := hmask
    · cases h
  · rintro rfl
    exact Except.ok.inj (h.symm.trans decode_clrst)

/-- A word that is no command raises IllegalCommand (30_encoding.md R86, R87). -/
theorem raised_illegal (s : State) : raised s.illegal .illegalCommand := raised_raise (by simp) _

/-- No error has code 0, so STK records it (R28, R32). -/
theorem stk_of_raised {t : State} {e : ErrorClass} (h : raised t e) (b : Bool) :
    t.ST.stk = (b || decide (t.ST.err ≠ 0)) := by
  obtain ⟨herr, -, hstk⟩ := h
  have hne : t.ST.err ≠ 0 := by
    rw [herr]
    cases e <;> decide
  rw [hstk, decide_eq_true hne, Bool.or_true]

/-- STK is cleared by CLRST, set by every other command that raises an error and kept by every other (R32). -/
theorem stk_of_exec {i : Instr} {s t : State} (h : exec i s = .next t) :
    t.ST.stk = if i = .clrst then false else s.ST.stk || decide (t.ST.err ≠ 0) := by
  by_cases hi : i = .clrst
  · subst hi
    have ht : t = s.prologue.setStk false := command_next (body := (·.setStk false)) h
    simp [ht]
  · rw [if_neg hi]
    rcases exec_ends h with ⟨herr, hstk, -⟩ | ⟨e, he⟩
    · simp [herr, hstk hi]
    · exact stk_of_raised he _

/-- Settles O49: by the six things a step can serve, and for a command word by what its command leaves in STK. -/
theorem stickyBitRecordsErrors : Obligations.StickyBitRecordsErrors := by
  intro s t h
  rcases step_cases s with ⟨hp, hs⟩ | ⟨w, rest, i, hp, hd, hs⟩ | ⟨w, rest, e, hp, hd, hs⟩ | ⟨a, rest, hp, hs⟩
    | ⟨a, v, rest, hp, hs⟩ | ⟨rest, hp, hs⟩ <;> rw [hs] at h <;> rw [hp]
  case inr.inl => simp only [stk_of_exec h, eq_clrst_iff_of_decode hd]
  all_goals obtain rfl := Host.Outcome.next.inj h
  · rfl
  · have hw : w ≠ 0x01000000 := by
      rintro rfl
      cases hd.symm.trans decode_clrst
    exact (stk_of_raised (raised_illegal _) _).trans (if_neg hw).symm
  · rfl
  · obtain ⟨-, -, -, hST, -⟩ := hostWrite_frame { s with port := rest } a v
    simp [hST]
  · exact (by decide : Status.stk State.reset.ST = false)

/-! ### The invariant of a run -/

/-- An event with a write phase of 1 to 16 bytes and a read phase of at most 16 is legal whatever its result (20_memory.md
R57, R58, R67). -/
theorem eventLegal_write (s : State) (sa : SlaveAddr) {bytes : List Byte} {rlen : Nat} (h1 : 1 ≤ bytes.length)
    (h16 : bytes.length ≤ 16) (hr : rlen ≤ 16) :
    eventLegal ⟨sa, some bytes, rlen, s.transferResult rlen⟩ = true := by
  rcases answerFor_cases s.nextDraw rlen hr with h | ⟨rd, h, hlen⟩
  · simp [eventLegal, State.transferResult, h, h1, h16, hr]
  · simp [eventLegal, State.transferResult, h, h1, h16, hr, hlen]

/-- An event without a write phase and with a read phase of 1 to 16 bytes is legal whatever its result. -/
theorem eventLegal_raw (s : State) (sa : SlaveAddr) {rlen : Nat} (h1 : 1 ≤ rlen) (hr : rlen ≤ 16) :
    eventLegal ⟨sa, none, rlen, s.transferResult rlen⟩ = true := by
  rcases answerFor_cases s.nextDraw rlen hr with h | ⟨rd, h, hlen⟩
  · simp [eventLegal, State.transferResult, h, h1, hr]
  · simp [eventLegal, State.transferResult, h, h1, hr, hlen]

/-- A command that passes its operand check records no event or one legal one (41_framer.md R110). -/
theorem events_rule {i : Instr} {s : State} (hok : operandsOk i s = true) :
    (rule i s).events = s.events ∨ ∃ e, eventLegal e = true ∧ (rule i s).events = s.events ++ [e] := by
  cases i
  case xwr sa ra n =>
    have hn : n.toNat ≤ 15 := (writeLengthOk_iff n).mp hok
    exact .inr ⟨_, eventLegal_write s sa (by simp) (by simpa [Nat.lt_succ_iff] using hn) (by omega), events_transact ..⟩
  case xrd sa ra n =>
    obtain ⟨-, hn⟩ := (readLengthOk_iff n).mp hok
    exact .inr ⟨_, eventLegal_write s sa (by simp) (by simp) hn, events_transact ..⟩
  case xcmd sa cw =>
    exact .inr ⟨_, eventLegal_write s sa (by simp) (by simp) (by omega), events_transact ..⟩
  case xrdraw sa n =>
    obtain ⟨h1, hn⟩ := (readLengthOk_iff n).mp hok
    exact .inr ⟨_, eventLegal_raw s sa h1 hn, events_transact ..⟩
  case frmpair | frmser => exact .inl (acceptedOr_keeps (·.events) _ (by simp) (by simp))
  all_goals exact .inl (by simp [rule])

/-- A command records no event or one legal one. -/
theorem events_of_exec {i : Instr} {s t : State} (h : exec i s = .next t) :
    t.events = s.events ∨ ∃ e, eventLegal e = true ∧ t.events = s.events ++ [e] := by
  rcases exec_cases h with ⟨-, rfl⟩ | ⟨hv, rfl⟩
  · exact .inl rfl
  · exact events_rule ((operandsOk_iff i s.prologue).mpr (mt (validationCause_prologue i s).mp hv))

theorem statusLegal_reset : statusLegal State.reset.ST = true := by decide

theorem statusLegal_of_err_eq_zero {st : Status} (h : st.err = 0) : statusLegal st = true := by
  simp [statusLegal, h]

theorem statusLegal_of_raised {t : State} {e : ErrorClass} (h : raised t e) : statusLegal t.ST = true := by
  obtain ⟨herr, hmal, hstk⟩ := h
  have hcode : e.code.toNat ≤ 4 := by cases e <;> decide
  simp [statusLegal, herr, hmal, hstk, hcode]

/-- A command leaves a legal STATUS whatever it found, and keeps the recorded transactions legal. -/
theorem inv_of_exec {i : Instr} {s t : State} (hev : ∀ e ∈ s.events, eventLegal e = true)
    (h : exec i s = .next t) : Inv t := by
  constructor
  · rcases exec_ends h with ⟨herr, -⟩ | ⟨e, he⟩
    · exact statusLegal_of_err_eq_zero herr
    · exact statusLegal_of_raised he
  · rcases events_of_exec h with ht | ⟨e, he, ht⟩
    · rwa [ht]
    · simpa [ht, or_imp, forall_and] using ⟨hev, he⟩

/-- Settles O45: by the six things a step can serve; a host operation keeps STATUS and the events, or resets both. -/
theorem stepKeepsStatusAndEventsLegal : Obligations.StepKeepsStatusAndEventsLegal := by
  rintro s t ⟨hst, hev⟩ h
  rcases step_cases s with ⟨-, hs⟩ | ⟨_, rest, i, -, -, hs⟩ | ⟨_, rest, _, -, -, hs⟩ | ⟨_, _, -, hs⟩
    | ⟨a, v, rest, -, hs⟩ | ⟨_, -, hs⟩ <;> rw [hs] at h
  case inr.inl => exact inv_of_exec (s := { s with port := rest }) hev h
  all_goals obtain rfl := Host.Outcome.next.inj h
  · exact ⟨hst, hev⟩
  · exact ⟨statusLegal_of_raised (raised_illegal _), hev⟩
  · exact ⟨hst, hev⟩
  · obtain ⟨-, -, -, hST, hevents, -⟩ := hostWrite_frame { s with port := rest } a v
    exact ⟨by rwa [hST], by rwa [hevents]⟩
  · exact ⟨statusLegal_reset, fun _ he => absurd he List.not_mem_nil⟩

end Sys2Proof.Machine

/-! ## Settling the memory family (20_memory.md): the command port, the transactions and the host register port -/

namespace Sys2Proof.Machine

open Sys2Proof.Safety

/-! ### The step serves the first operation of the port (R55, R65) -/

theorem step_eq_serve {s : State} {op : HostOp} {rest : List HostOp} (h : s.port = op :: rest) :
    step s = serve op { s with port := rest } := by
  simp only [step, serveNext, h]

theorem issue_of_decode_ok {w : Word32} {i : Instr} (h : decode w = .ok i) (s : State) : issue w s = exec i s := by
  simp only [issue, h]

theorem issue_of_decode_error {w : Word32} {e : DecodeError} (h : decode w = .error e) (s : State) :
    issue w s = .next s.illegal := by
  simp only [issue, h]

/-- Settles O7: the step serves the command word, and the word issued is its decoded command. -/
theorem stepRunsTheDecodedCommand : Obligations.StepRunsTheDecodedCommand := by
  intro s w rest i hp hd
  rw [step_eq_serve hp]
  exact issue_of_decode_ok hd _

/-! ### Transactions (R57 to R60) -/

/-- A run of B registers as the list of its bytes. -/
theorem bytesFrom_eq_map_range (s : State) (a : BIndex) (n : Nat) :
    s.bytesFrom a n = (List.range n).map fun k => s.getB (a + BitVec.ofNat 4 k) :=
  List.ext_getElem (by simp) fun k h _ => by simp [bytesFrom_getElem s a n k h]

section Transact

variable (s : State) (sa : SlaveAddr) (wr : Option (List Byte)) (rlen : Nat)

@[simp] theorem draws_transact : (s.transact sa wr rlen).draws = s.draws.tail := by
  unfold State.transact
  split <;> simp

@[simp] theorem drawCount_transact : (s.transact sa wr rlen).drawCount = s.drawCount + 1 := by
  unfold State.transact
  split <;> simp

/-- A transaction is issued once, whatever its result (R60). -/
theorem oneTransaction_transact :
    oneTransaction s (s.transact sa wr rlen) ⟨sa, wr, rlen, s.transferResult rlen⟩ :=
  ⟨events_transact .., draws_transact .., drawCount_transact ..⟩

/-- From ERR 0, a transaction leaves the code of BusError exactly where its result is a bus error (41_framer.md R112). -/
theorem err_transact_iff (h : s.ST.err = 0) :
    (s.transact sa wr rlen).ST.err = 1 ↔ s.transferResult rlen = .busErr := by
  cases hr : s.transferResult rlen with
  | busErr => simp [State.transact, hr, ErrorClass.code]
  | ok rd => simp [State.transact, hr, h]

end Transact

/-- No command but the framers issues a transaction (R60). -/
theorem noTransaction_rule {i : Instr} (h : isFramer i.mnemonic = false) (s : State) : noTransaction s (rule i s) := by
  cases i
  case xwr | xrd | xcmd | xrdraw => exact Bool.noConfusion h
  case frmpair | frmser =>
    exact ⟨acceptedOr_keeps (·.events) _ (by simp) (by simp), acceptedOr_keeps (·.draws) _ (by simp) (by simp),
      acceptedOr_keeps (·.drawCount) _ (by simp) (by simp)⟩
  all_goals simp [noTransaction, rule]

/-- The one transaction of a command that passes its operand check is legal (R57, R58, R67). -/
theorem eventLegal_of_oneTransaction {i : Instr} {s : State} {e : Event} (hok : operandsOk i s = true)
    (h : oneTransaction s (rule i s) e) : eventLegal e = true := by
  obtain ⟨hevents, -⟩ := h
  rcases events_rule hok with hnone | ⟨e', hlegal, hone⟩
  · simp [hnone] at hevents
  · obtain rfl : e' = e := by simpa [hone] using hevents
    exact hlegal

/-- What a rule that is one transaction records when it is run from ERR 0 with its operands checked. -/
theorem records_of_rule_eq_transact {i : Instr} {s : State} (hok : operandsOk i s = true) (herr : s.ST.err = 0)
    {sa : SlaveAddr} {wr : Option (List Byte)} {rlen : Nat} (hrule : rule i s = s.transact sa wr rlen) :
    oneTransaction s (rule i s) ⟨sa, wr, rlen, s.transferResult rlen⟩
      ∧ eventLegal ⟨sa, wr, rlen, s.transferResult rlen⟩ = true
      ∧ (s.transferResult rlen = .busErr ↔ (rule i s).ST.err = 1) := by
  have hone := hrule ▸ oneTransaction_transact s sa wr rlen
  exact ⟨hone, eventLegal_of_oneTransaction hok hone, hrule ▸ (err_transact_iff s sa wr rlen herr).symm⟩

/-- Settles O54: the rule of a framer command is one transaction of its operands, every other rule has none, and neither
a failed operand check nor IllegalCommand comes to a rule. -/
theorem oneTransactionPerFramerCommand : Obligations.OneTransactionPerFramerCommand := by
  refine ⟨fun i s t h => ⟨?_, fun hnot => ?_⟩, fun s t w rest e hp hd h => ?_⟩
  · rintro ⟨hf, hv⟩
    obtain ⟨-, rfl⟩ := (exec_cases h).resolve_left fun hc => hv hc.1
    have hok : operandsOk i s.prologue = true :=
      (operandsOk_iff i s.prologue).mpr (mt (validationCause_prologue i s).mp hv)
    have herr : s.prologue.ST.err = 0 := by simp
    cases i
    case xwr sa ra n =>
      obtain ⟨hone, hlegal, hres⟩ := records_of_rule_eq_transact hok herr rfl
      exact ⟨_, hone, hlegal, hres, rfl, by simp [bytesFrom_eq_map_range], rfl⟩
    case xrd | xcmd | xrdraw =>
      obtain ⟨hone, hlegal, hres⟩ := records_of_rule_eq_transact hok herr rfl
      exact ⟨_, hone, hlegal, hres, rfl, rfl, rfl⟩
    all_goals exact Bool.noConfusion hf
  · rcases exec_cases h with ⟨-, rfl⟩ | ⟨hv, rfl⟩
    · exact ⟨rfl, rfl, rfl⟩
    · exact noTransaction_rule (hnot.resolve_right hv) s.prologue
  · rw [step_eq_serve hp] at h
    obtain rfl := Host.Outcome.next.inj ((issue_of_decode_error hd _).symm.trans h)
    exact ⟨rfl, rfl, rfl⟩

/-! ### The map of the host register port (R50 to R53) -/

/-- B[i] stands at address i. -/
theorem hostRead_eq_getB (s : State) {a : HostAddr} {i : BIndex} (h : a.toNat = i.toNat) : s.hostRead a = s.getB i := by
  rw [hostRead_B s a (by omega), show a.setWidth 4 = i by bv_omega]

/-- V[i] stands at address 0x10 + i. -/
theorem hostRead_eq_getV (s : State) {a : HostAddr} {i : VIndex} (h : a.toNat = 16 + i.toNat) :
    s.hostRead a = s.getV i := by
  rw [hostRead_V s a (by omega) (by omega), show a.setWidth 3 = i by bv_omega]

/-- From 0x22 the addresses are reserved and read 0x00 (R51). -/
theorem hostRead_reserved (s : State) {a : HostAddr} (h : 0x22 ≤ a.toNat) : s.hostRead a = 0x00 := by
  have hne : ∀ b : HostAddr, b.toNat < 0x22 → a ≠ b := by bv_omega
  have hB : ¬a.toNat < 0x10 := by omega
  have hV : ¬a.toNat < 0x18 := by omega
  simp [State.hostRead, hB, hV, hne]

/-- The byte of a multi-byte register that starts at bit `k`, as a number (R53). -/
theorem toNat_byteAt {n : Nat} (x : BitVec n) (k : Nat) : (x.extractLsb' k 8).toNat = x.toNat / 2 ^ k % 256 := by
  rw [BitVec.extractLsb'_toNat, Nat.shiftRight_eq_div_pow]

/-- The most significant byte of a register of `k + 8` bits, as a number (R53). -/
theorem toNat_topByte {k : Nat} (x : BitVec (k + 8)) : (x.extractLsb' k 8).toNat = x.toNat / 2 ^ k := by
  rw [toNat_byteAt, Nat.mod_eq_of_lt]
  exact Nat.div_lt_of_lt_mul (by simpa [Nat.pow_add] using x.isLt)

/-- The least significant byte of a register, as a number (R53). -/
theorem toNat_lowByte {n : Nat} (x : BitVec n) : (x.extractLsb' 0 8).toNat = x.toNat % 256 := by
  rw [toNat_byteAt, Nat.pow_zero, Nat.div_one]

/-- Settles O55: the step answers `hostRead` of the address, and each address reads its register of the map. -/
theorem hostReadAnswersTheRegisterMap : Obligations.HostReadAnswersTheRegisterMap := by
  intro s a rest hp
  refine ⟨_, s.hostRead a, step_eq_serve hp, rfl, rfl, rfl, fun _ => rfl, fun _ => rfl, ⟨⟨rfl, rfl⟩, rfl, rfl⟩,
    ⟨rfl, rfl, rfl⟩, fun i h => hostRead_eq_getB s h, fun i h => hostRead_eq_getV s h, ?_, ?_, ?_, ?_, ?_, ?_, ?_, ?_,
    ?_, ?_, hostRead_reserved s⟩
  all_goals rintro rfl
  · exact toNat_topByte s.W0
  · exact toNat_lowByte s.W0
  · exact toNat_topByte s.W1
  · exact toNat_lowByte s.W1
  · exact toNat_topByte s.SN
  · exact toNat_byteAt s.SN 16
  · exact toNat_byteAt s.SN 8
  · exact toNat_lowByte s.SN
  · rfl
  · rfl

/-- What a host write can do: write the B or V register at its address or CRC, or, where the address is read-only or
reserved, nothing (R52). -/
theorem hostWrite_cases (s : State) (a : HostAddr) (v : Byte) :
    (∃ i : BIndex, a.toNat = i.toNat ∧ s.hostWrite a v = s.setB i v)
      ∨ (∃ i : VIndex, a.toNat = 16 + i.toNat ∧ s.hostWrite a v = s.setV i v)
      ∨ (a = 0x20 ∧ s.hostWrite a v = s.setCRC v)
      ∨ (24 ≤ a.toNat ∧ a ≠ 0x20 ∧ s.hostWrite a v = s) := by
  by_cases hB : a.toNat < 16
  · exact .inl ⟨a.setWidth 4, by bv_omega, hostWrite_B s a v hB⟩
  by_cases hV : a.toNat < 24
  · exact .inr (.inl ⟨a.setWidth 3, by bv_omega, hostWrite_V s a v (by omega) hV⟩)
  by_cases hC : a = 0x20
  · exact .inr (.inr (.inl ⟨hC, by rw [hC]; rfl⟩))
  · exact .inr (.inr (.inr ⟨by omega, hC, by rw [State.hostWrite, if_neg hB, if_neg hV, if_neg hC]⟩))

section HostReadAfterWrite

variable (s : State) (v : Byte) (b : HostAddr)

/-! A write of one register is read at the register's own address and nowhere else (R50, R51). -/

theorem hostRead_setB (i : BIndex) :
    (s.setB i v).hostRead b = if b.toNat = i.toNat then v else s.hostRead b := by
  by_cases hB : b.toNat < 16
  · rw [hostRead_B _ _ hB, hostRead_B _ _ hB, getB_setB]
    exact if_congr (by bv_omega) rfl rfl
  · rw [if_neg (by omega)]
    simp [State.hostRead, hB]

theorem hostRead_setV (i : VIndex) :
    (s.setV i v).hostRead b = if b.toNat = 16 + i.toNat then v else s.hostRead b := by
  by_cases hV : 16 ≤ b.toNat ∧ b.toNat < 24
  · obtain ⟨h16, h24⟩ := hV
    rw [hostRead_V _ _ h16 h24, hostRead_V _ _ h16 h24, getV_setV]
    exact if_congr (by bv_omega) rfl rfl
  · rw [if_neg (by omega)]
    by_cases hB : b.toNat < 16
    · rw [hostRead_B _ _ hB, hostRead_B _ _ hB, getB_setV]
    · simp [State.hostRead, hB, show ¬b.toNat < 24 by omega]

theorem hostRead_setCRC : (s.setCRC v).hostRead b = if b = 0x20 then v else s.hostRead b := by
  by_cases hC : b = 0x20
  · subst hC
    rfl
  · simp only [State.hostRead, getB_setCRC, getV_setCRC, W0_setCRC, W1_setCRC, SN_setCRC, ST_setCRC, if_neg hC]

end HostReadAfterWrite

/-- Settles O57: by the kinds of register a host write can write, each read at its own address alone. -/
theorem hostReadAfterHostWrite : Obligations.HostReadAfterHostWrite := by
  intro s a b v
  rcases hostWrite_cases s a v with ⟨i, ha, hw⟩ | ⟨i, ha, hw⟩ | ⟨rfl, hw⟩ | ⟨h24, hC, hw⟩ <;> rw [hw]
  · rw [hostRead_setB]
    exact if_congr (by bv_omega) rfl rfl
  · rw [hostRead_setV]
    exact if_congr (by bv_omega) rfl rfl
  · rw [hostRead_setCRC]
    exact if_congr (by simp) rfl rfl
  · rw [if_neg fun ⟨_, hrw⟩ => hrw.elim (by omega) hC]

/-! ### Each register after a host write (R52) -/

section RegistersAfterWrite

variable (s : State) (a : HostAddr) (v : Byte)

theorem getB_hostWrite (j : BIndex) :
    (s.hostWrite a v).getB j = if a.toNat = j.toNat then v else s.getB j := by
  rcases hostWrite_cases s a v with ⟨i, ha, hw⟩ | ⟨i, ha, hw⟩ | ⟨rfl, hw⟩ | ⟨h24, -, hw⟩ <;> rw [hw]
  · rw [getB_setB]
    exact if_congr (by bv_omega) rfl rfl
  · rw [getB_setV, if_neg (by omega)]
  · rw [getB_setCRC, if_neg (by bv_omega)]
  · rw [if_neg (by omega)]

theorem getV_hostWrite (j : VIndex) :
    (s.hostWrite a v).getV j = if a.toNat = 16 + j.toNat then v else s.getV j := by
  rcases hostWrite_cases s a v with ⟨i, ha, hw⟩ | ⟨i, ha, hw⟩ | ⟨rfl, hw⟩ | ⟨h24, -, hw⟩ <;> rw [hw]
  · rw [getV_setB, if_neg (by omega)]
  · rw [getV_setV]
    exact if_congr (by bv_omega) rfl rfl
  · rw [getV_setCRC, if_neg (by bv_omega)]
  · rw [if_neg (by omega)]

theorem CRC_hostWrite : (s.hostWrite a v).CRC = if a = 0x20 then v else s.CRC := by
  rcases hostWrite_cases s a v with ⟨i, ha, hw⟩ | ⟨i, ha, hw⟩ | ⟨rfl, hw⟩ | ⟨-, hC, hw⟩ <;> rw [hw]
  · rw [CRC_setB, if_neg (by bv_omega)]
  · rw [CRC_setV, if_neg (by bv_omega)]
  · rw [CRC_setCRC, if_pos rfl]
  · rw [if_neg hC]

end RegistersAfterWrite

/-- Settles O56: the step is the host write, which writes B, V and CRC at their addresses alone and leaves the rest. -/
theorem hostWriteChangesOneRegister : Obligations.HostWriteChangesOneRegister := by
  intro s a v rest hp
  obtain ⟨hW0, hW1, hSN, hST, hevents, hport, hdraws, hcount, hreads⟩ := hostWrite_frame { s with port := rest } a v
  exact ⟨_, step_eq_serve hp, getB_hostWrite _ a v, getV_hostWrite _ a v, CRC_hostWrite _ a v, ⟨hW0, hW1⟩, hSN, hST,
    ⟨hevents, hdraws, hcount⟩, hport, hreads⟩

end Sys2Proof.Machine

/-! ## Settling the encoding family (30_encoding.md): the decoder, the encoder, the opcode table and the assembler -/

namespace Sys2Proof

open Sys2Proof.Machine Sys2Proof.Safety

/-! ### The decoder as the mask and match of a row (R86, R88) -/

/-- Every mask has all eight opcode bits, so what a mask clears is not in OP. -/
theorem opField_and_mask (w : Word32) (f : Format) : opField (w &&& f.mask) = opField w := by
  rw [opField, BitVec.extractLsb'_and]
  cases f <;> exact BitVec.and_allOnes

theorem opField_matchWord (m : Mnemonic) : opField m.matchWord = m.opcode := BitVec.extractLsb'_append_eq_left

/-- A word that matches a row under its mask has the row's OP. -/
theorem opField_eq_opcode {w : Word32} {m : Mnemonic} (h : w &&& m.format.mask = m.matchWord) : opField w = m.opcode := by
  rw [← opField_and_mask w m.format, h, opField_matchWord]

/-- A word decodes exactly by matching a row under its mask, and then to the row's command with the word's fields. -/
theorem decode_eq_ok_iff {w : Word32} {i : Instr} :
    decode w = .ok i ↔ ∃ m : Mnemonic, w &&& m.format.mask = m.matchWord ∧ operandsOf m w = i := by
  constructor
  · intro h
    unfold decode at h
    split at h
    · cases h
    next m _ =>
    split at h
    · next hmask => exact ⟨m, hmask, Except.ok.inj h⟩
    · cases h
  · rintro ⟨m, hmask, rfl⟩
    simp only [decode, opField_eq_opcode hmask, mnemonicOf_opcode, if_pos hmask]

/-- A word decodes to a command of the mnemonic exactly by matching the mnemonic's row. -/
theorem decodes_to_mnemonic_iff (w : Word32) (m : Mnemonic) :
    (∃ i, decode w = .ok i ∧ i.mnemonic = m) ↔ w &&& m.format.mask = m.matchWord := by
  constructor
  · rintro ⟨i, hd, rfl⟩
    obtain ⟨m, hmask, rfl⟩ := decode_eq_ok_iff.mp hd
    rwa [operandsOf_mnemonic]
  · exact fun h => ⟨operandsOf m w, decode_eq_ok_iff.mpr ⟨m, h, rfl⟩, operandsOf_mnemonic m w⟩

/-! ### The fields of each pattern (R82, R84) -/

section PatternFields

variable (m : Mnemonic) (sa : SlaveAddr) (ra p : Byte) (cw : Word16) (n : BitVec 5) (vr : BitVec 4) (br : BIndex)

theorem fields_wordX :
    saField (wordX m sa ra n) = sa ∧ raField (wordX m sa ra n) = ra ∧ nField (wordX m sa ra n) = n := by
  unfold saField raField nField wordX
  grind

theorem fields_wordC : saField (wordC m sa cw) = sa ∧ cwField (wordC m sa cw) = cw := by
  unfold saField cwField wordC
  grind

theorem fields_wordXR : saField (wordXR m sa n) = sa ∧ nField (wordXR m sa n) = n := by
  unfold saField nField wordXR
  grind

theorem fields_wordBV : vrField (wordBV m vr br) = vr ∧ brField (wordBV m vr br) = br := by
  unfold vrField brField wordBV
  grind

theorem field_wordB : brField (wordB m br) = br := by
  unfold brField wordB
  grind

theorem fields_wordBP : pField (wordBP m p br) = p ∧ brField (wordBP m p br) = br := by
  unfold pField brField wordBP
  grind

end PatternFields

/-- The word of an instruction holds every operand in its field. -/
theorem operandsOf_encode (i : Instr) : operandsOf i.mnemonic (encode i) = i := by
  cases i <;>
    simp only [Instr.mnemonic, encode, operandsOf, fields_wordX, fields_wordC, fields_wordXR, fields_wordBV, field_wordB,
      fields_wordBP]

/-- The word of an instruction matches the instruction's row (R82, R85). -/
theorem encode_and_mask (i : Instr) : encode i &&& i.mnemonic.format.mask = i.mnemonic.matchWord := by
  cases i with
  | nop | clrst | crcinit => exact wordN_fixed _
  | xwr sa ra n | xrd sa ra n => exact wordX_fixed _ sa ra n
  | xcmd sa cw => exact wordC_fixed _ sa cw
  | xrdraw sa n => exact wordXR_fixed _ sa n
  | bcddec vr br | bcdenc br vr => exact wordBV_fixed _ vr br
  | timedec br | timeenc br | clkdec br | clkenc br | datedec br | dateenc br | crcbyte br | frmpair br | frmser br =>
    exact wordB_fixed _ br
  | al1enc br p | al2enc br p | alentest br p | alenable br p | aldisable br p | alfired br p | crc8 br p | crcvfy br p =>
    exact wordBP_fixed _ p br

/-- Settles O1: the word matches the instruction's row and holds each operand in its field. -/
theorem decodeReadsEncodedInstruction : Obligations.DecodeReadsEncodedInstruction := fun i =>
  decode_eq_ok_iff.mpr ⟨i.mnemonic, encode_and_mask i, operandsOf_encode i⟩

/-! ### The operand fields as the assembler places them (R81, R89) -/

/-- Bit `k` of a command word belongs to the field. -/
def Field.covers (f : Field) (k : Nat) : Prop := f.lsb ≤ k ∧ k < f.lsb + f.width

/-- A number as the source writes it for the field (R89). -/
def Field.operand : Field → Nat → Operand
  | .vr => .vReg
  | .br => .bReg
  | _ => .num

@[simp] theorem Field.value_operand (f : Field) (v : Nat) : (f.operand v).value = v := by
  cases f <;> rfl

@[simp] theorem Field.ofKind_operand (f : Field) (v : Nat) : (f.operand v).ofKind f = true := by
  cases f <;> rfl

/-- An operand of the field's kind is written as the field writes its number. -/
theorem Field.operand_value {f : Field} {o : Operand} (h : o.ofKind f = true) : f.operand o.value = o := by
  unfold Operand.ofKind at h
  split at h
  · rfl
  · rfl
  · cases h
  · cases h
  · next hbr hvr =>
    cases f with
    | br => exact absurd rfl hbr
    | vr => exact absurd rfl hvr
    | sa | ra | cw | n | p => rfl
  · cases h

/-- The operand that the source writes for the field's bits in `w`. -/
def Field.read (f : Field) (w : Word32) : Operand := f.operand (w.extractLsb' f.lsb f.width).toNat

/-- The source line of a decoded word reads the fields of its row, in the row's order. -/
theorem toSource_operandsOf (m : Mnemonic) (w : Word32) :
    (operandsOf m w).toSource = { mnemonic := m, operands := m.operands.map (·.read w) } := by
  cases m <;> rfl

theorem Field.operand_injective (f : Field) : Function.Injective f.operand :=
  Function.LeftInverse.injective (g := Operand.value) f.value_operand

/-- Two words read alike in a field exactly where they agree in its bits. -/
theorem Field.read_eq_read_iff {f : Field} {w w' : Word32} :
    f.read w = f.read w' ↔ ∀ k, f.covers k → w.getLsbD k = w'.getLsbD k := by
  rw [Field.read, Field.read, f.operand_injective.eq_iff, BitVec.toNat_inj]
  constructor
  · rintro h k ⟨hlo, hhi⟩
    have hbit := congrArg (BitVec.getLsbD · (k - f.lsb)) h
    simpa [BitVec.getLsbD_extractLsb', Nat.add_sub_cancel' hlo, show k - f.lsb < f.width by omega] using hbit
  · intro h
    apply BitVec.eq_of_getLsbD_eq
    intro k hk
    simp [hk, h (f.lsb + k) ⟨by omega, by omega⟩]

/-- A word's mask and operand fields cover its 32 bits (R82, R83). -/
theorem mask_or_field_covers (m : Mnemonic) {k : Nat} (hk : k < 32) :
    m.format.mask.getLsbD k = true ∨ ∃ f ∈ m.operands, f.covers k := by
  unfold Field.covers
  revert k
  cases m <;> decide

/-- Words that match one row and read alike in its fields are the same word: no bit is outside both. -/
theorem eq_of_same_row_of_same_fields {m : Mnemonic} {w w' : Word32} (hw : w &&& m.format.mask = m.matchWord)
    (hw' : w' &&& m.format.mask = m.matchWord) (hread : m.operands.map (·.read w) = m.operands.map (·.read w')) :
    w = w' := by
  apply BitVec.eq_of_getLsbD_eq
  intro k hk
  rcases mask_or_field_covers m hk with hmask | ⟨f, hf, hcovers⟩
  · have hbit := congrArg (BitVec.getLsbD · k) (hw.trans hw'.symm)
    simpa [hmask] using hbit
  · exact Field.read_eq_read_iff.mp (List.map_inj_left.mp hread f hf) k hcovers

/-- The source line of an instruction reads the fields of its word. -/
theorem toSource_eq_read (i : Instr) :
    i.toSource = { mnemonic := i.mnemonic, operands := i.mnemonic.operands.map (·.read (encode i)) } := by
  rw [← toSource_operandsOf, operandsOf_encode]

/-- Settles O2: the word and the word of its instruction match one row and read alike in its fields. -/
theorem encodeWritesDecodedWord : Obligations.EncodeWritesDecodedWord := by
  intro w i hd
  obtain ⟨m, hmask, hi⟩ := decode_eq_ok_iff.mp hd
  have hm : i.mnemonic = m := hi ▸ operandsOf_mnemonic m w
  subst hm
  have hsrc := (toSource_eq_read i).symm.trans (hi ▸ toSource_operandsOf i.mnemonic w)
  exact eq_of_same_row_of_same_fields (encode_and_mask i) hmask (SourceLine.mk.inj hsrc).2

/-! ### The opcode table (R85, R88) -/

theorem mem_all (m : Mnemonic) : m ∈ Mnemonic.all := by
  cases m <;> decide

/-- The rows of spec/opcode_table.json are the masks and matches of the decoder. -/
theorem tableRows_eq : tableRows = Mnemonic.all.map fun m => (m, m.matchWord, m.format.mask) := by decide

theorem mem_tableRows_iff (r : Mnemonic × Word32 × Word32) :
    r ∈ tableRows ↔ r = (r.1, r.1.matchWord, r.1.format.mask) := by
  rw [tableRows_eq, List.mem_map]
  constructor
  · rintro ⟨m, -, rfl⟩
    rfl
  · exact fun h => ⟨r.1, mem_all _, h.symm⟩

/-- Settles O3: a row of the table is its mnemonic's mask and match, and a word's OP names one mnemonic at most. -/
theorem decoderIsTheOpcodeTable : Obligations.DecoderIsTheOpcodeTable := by
  constructor
  · intro w m
    rw [decodes_to_mnemonic_iff]
    constructor
    · intro h
      exact ⟨_, (mem_tableRows_iff (m, m.matchWord, m.format.mask)).mpr rfl, rfl,
        (opField_matchWord m).trans (opField_eq_opcode h).symm, h⟩
    · rintro ⟨r, hr, rfl, -, hmatch⟩
      rw [mem_tableRows_iff] at hr
      rw [hr] at hmatch
      exact hmatch
  · intro w r hr r' hr' h h'
    rw [mem_tableRows_iff] at hr hr'
    rw [hr] at h
    rw [hr'] at h'
    have hm : r.1 = r'.1 := opcode_injective ((opField_eq_opcode h).symm.trans (opField_eq_opcode h'))
    rw [hr, hr', hm]

/-- A word of no row is no command (R87). -/
theorem decode_error_of_no_row {w : Word32} (h : ∀ r ∈ tableRows, ¬rowMatches w r) : ∃ e, decode w = .error e := by
  cases hd : decode w with
  | error e => exact ⟨e, rfl⟩
  | ok i =>
    obtain ⟨r, hr, -, -, hmatch⟩ := (decoderIsTheOpcodeTable.1 w i.mnemonic).mp ⟨i, hd, rfl⟩
    exact absurd hmatch (h r hr)

/-- Settles O8: the word is issued as IllegalCommand, which writes ERR, MAL and STK alone. -/
theorem illegalWordChangesStatusOnly : Obligations.IllegalWordChangesStatusOnly := by
  intro s w rest hp hrow
  obtain ⟨e, hd⟩ := decode_error_of_no_row hrow
  have hstep := (step_eq_serve hp).trans (issue_of_decode_error hd _)
  have hflags : sameFlags s (State.illegal { s with port := rest }) := by simp [sameFlags, State.illegal]
  exact ⟨_, hstep, raised_illegal _, hflags, fun _ => rfl, fun _ => rfl, ⟨⟨rfl, rfl⟩, rfl, rfl⟩, ⟨rfl, rfl, rfl⟩, rfl, rfl⟩

/-! ### The fields as numbers (R81, R84) -/

section FieldNumbers

variable (w : Word32)

theorem toNat_saField : (saField w).toNat = w.toNat / 65536 % 128 := by
  rw [saField, BitVec.extractLsb'_toNat, Nat.shiftRight_eq_div_pow]

theorem toNat_raField : (raField w).toNat = w.toNat / 256 % 256 := toNat_byteAt w 8

theorem toNat_pField : (pField w).toNat = w.toNat / 256 % 256 := toNat_byteAt w 8

theorem toNat_vrField : (vrField w).toNat = w.toNat / 256 % 16 := by
  rw [vrField, BitVec.extractLsb'_toNat, Nat.shiftRight_eq_div_pow]

theorem toNat_cwField : (cwField w).toNat = w.toNat % 65536 := by
  rw [cwField, BitVec.extractLsb'_toNat, Nat.shiftRight_zero]

theorem toNat_nField : (nField w).toNat = w.toNat % 32 := by
  rw [nField, BitVec.extractLsb'_toNat, Nat.shiftRight_zero]

theorem toNat_brField : (brField w).toNat = w.toNat % 16 := by
  rw [brField, BitVec.extractLsb'_toNat, Nat.shiftRight_zero]

end FieldNumbers

/-- Settles O4: the operands are the fields of the word's row, each the number of its bits. -/
theorem operandsAreTheFieldsOfTheWord : Obligations.OperandsAreTheFieldsOfTheWord := by
  intro w i hd
  obtain ⟨m, -, rfl⟩ := decode_eq_ok_iff.mp hd
  cases m with
  | nop | clrst | crcinit => trivial
  | xwr | xrd => exact ⟨toNat_saField w, toNat_raField w, toNat_nField w⟩
  | xcmd => exact ⟨toNat_saField w, toNat_cwField w⟩
  | xrdraw => exact ⟨toNat_saField w, toNat_nField w⟩
  | bcddec | bcdenc => exact ⟨toNat_vrField w, toNat_brField w⟩
  | timedec | timeenc | clkdec | clkenc | datedec | dateenc | crcbyte | frmpair | frmser => exact toNat_brField w
  | al1enc | al2enc | alentest | alenable | aldisable | alfired | crc8 | crcvfy => exact ⟨toNat_pField w, toNat_brField w⟩

/-! ### The word of a source line (R89) -/

/-- The two fields share no bit. -/
def Field.apart (f g : Field) : Prop := f.lsb + f.width ≤ g.lsb ∨ g.lsb + g.width ≤ f.lsb

theorem Field.apart.not_covers {f g : Field} (h : f.apart g) {k : Nat} (hf : f.covers k) : ¬g.covers k := by
  unfold Field.apart at h
  unfold Field.covers at *
  omega

theorem Field.apart.symm {f g : Field} (h : f.apart g) : g.apart f := Or.symm h

theorem operands_apart (m : Mnemonic) : m.operands.Pairwise Field.apart := by
  unfold Field.apart
  cases m <;> decide

/-- An opcode or must-be-zero bit belongs to no operand field (R82, R83). -/
theorem not_covers_of_mask {m : Mnemonic} {k : Nat} (hk : k < 32) (hmask : m.format.mask.getLsbD k = true) :
    ∀ f ∈ m.operands, ¬f.covers k := by
  unfold Field.covers
  revert k
  cases m <;> decide

theorem matchWord_and_mask (m : Mnemonic) : m.matchWord &&& m.format.mask = m.matchWord := by
  cases m <;> decide

/-- A match has no bit in an operand field (R85). -/
theorem getLsbD_matchWord_of_covers {m : Mnemonic} {f : Field} {k : Nat} (hf : f ∈ m.operands) (hk : f.covers k) :
    m.matchWord.getLsbD k = false := by
  rw [← matchWord_and_mask, BitVec.getLsbD_and]
  cases hmask : m.format.mask.getLsbD k with
  | false => exact Bool.and_false _
  | true => exact absurd hk (not_covers_of_mask (BitVec.lt_of_getLsbD hmask) hmask f hf)

section Placing

variable {o : Operand} {f : Field} {k : Nat}

/-- The operand's bits at the field's place. -/
def Field.place (f : Field) (o : Operand) : Word32 := BitVec.ofNat 32 o.value <<< f.lsb

theorem placeOperands_cons (o : Operand) (os : List Operand) (f : Field) (fs : List Field) :
    placeOperands (o :: os) (f :: fs) = f.place o ||| placeOperands os fs := rfl

theorem fits_iff : o.fits f = true ↔ o.ofKind f = true ∧ o.value < 2 ^ f.width := by
  rw [Operand.fits, Bool.and_eq_true, decide_eq_true_eq]

/-- An operand that fits its field sets no bit outside it. -/
theorem getLsbD_place_of_not_covers (h : o.fits f = true) (hk : ¬f.covers k) : (f.place o).getLsbD k = false := by
  by_cases hlo : f.lsb ≤ k
  · have hwidth : f.width ≤ k - f.lsb := by
      unfold Field.covers at hk
      omega
    have hlt : o.value < 2 ^ (k - f.lsb) := (fits_iff.mp h).2.trans_le (Nat.pow_le_pow_right (by decide) hwidth)
    simp [Field.place, BitVec.getLsbD_ofNat, Nat.testBit_lt_two_pow hlt]
  · simp [Field.place, Nat.lt_of_not_le hlo]

/-- An operand that fits its field is read there as it was placed. -/
theorem read_place (h : o.fits f = true) : f.read (f.place o) = o := by
  obtain ⟨hkind, hlt⟩ := fits_iff.mp h
  have hnum : ((f.place o).extractLsb' f.lsb f.width).toNat = o.value := by
    rw [Field.place, BitVec.extractLsb'_toNat, BitVec.toNat_shiftLeft, BitVec.toNat_ofNat, Nat.shiftRight_eq_div_pow,
      Nat.shiftLeft_eq]
    cases f <;> simp only [Field.lsb, Field.width] at hlt ⊢ <;> omega
  rw [Field.read, hnum, Field.operand_value hkind]

theorem operandsFit_cons {o : Operand} {os : List Operand} {f : Field} {fs : List Field} :
    operandsFit (o :: os) (f :: fs) = true ↔ o.fits f = true ∧ operandsFit os fs = true := by
  rw [operandsFit, Bool.and_eq_true]

/-- Operands that fit set no bit outside their fields. -/
theorem getLsbD_placeOperands {os : List Operand} {fs : List Field} (hfit : operandsFit os fs = true)
    (hk : ∀ f ∈ fs, ¬f.covers k) : (placeOperands os fs).getLsbD k = false := by
  induction os, fs using operandsFit.induct with
  | case1 => exact BitVec.getLsbD_zero
  | case2 o os f fs ih =>
    obtain ⟨ho, hos⟩ := operandsFit_cons.mp hfit
    obtain ⟨hf, hfs⟩ := List.forall_mem_cons.mp hk
    rw [placeOperands_cons, BitVec.getLsbD_or, getLsbD_place_of_not_covers ho hf, ih hos hfs, Bool.or_self]
  | case3 os fs hnil hcons => simp [operandsFit] at hfit

/-- Operands that fit fields with no shared bit are read there as they were placed. -/
theorem read_placeOperands {os : List Operand} {fs : List Field} (hfit : operandsFit os fs = true)
    (hapart : fs.Pairwise Field.apart) : fs.map (·.read (placeOperands os fs)) = os := by
  induction os, fs using operandsFit.induct with
  | case1 => rfl
  | case2 o os f fs ih =>
    obtain ⟨ho, hos⟩ := operandsFit_cons.mp hfit
    obtain ⟨hf, hfs⟩ := List.pairwise_cons.mp hapart
    have hhead : f.read (f.place o ||| placeOperands os fs) = o := by
      rw [← read_place ho, Field.read_eq_read_iff, read_place ho]
      intro k hk
      rw [BitVec.getLsbD_or, getLsbD_placeOperands hos fun g hg => (hf g hg).not_covers hk, Bool.or_false]
    have htail : ∀ g ∈ fs, g.read (f.place o ||| placeOperands os fs) = g.read (placeOperands os fs) := by
      intro g hg
      rw [Field.read_eq_read_iff]
      intro k hk
      rw [BitVec.getLsbD_or, getLsbD_place_of_not_covers ho ((hf g hg).symm.not_covers hk), Bool.false_or]
    rw [placeOperands_cons, List.map_cons, hhead, List.map_congr_left htail, ih hos hfs]
  | case3 os fs hnil hcons => simp [operandsFit] at hfit

end Placing

theorem assemble_eq_some_iff {m : Mnemonic} {os : List Operand} {w : Word32} :
    assemble { mnemonic := m, operands := os } = some w
      ↔ operandsFit os m.operands = true ∧ m.matchWord ||| placeOperands os m.operands = w := by
  rw [assemble, Option.ite_none_right_eq_some, Option.some.injEq, SourceLine.WellFormed]

/-- The word of operands that fit matches the row of its mnemonic. -/
theorem placed_and_mask {m : Mnemonic} {os : List Operand} (hfit : operandsFit os m.operands = true) :
    (m.matchWord ||| placeOperands os m.operands) &&& m.format.mask = m.matchWord := by
  have hzero : placeOperands os m.operands &&& m.format.mask = 0#32 := by
    apply BitVec.eq_of_getLsbD_eq
    intro k hk
    rw [BitVec.getLsbD_and, BitVec.getLsbD_zero]
    cases hmask : m.format.mask.getLsbD k with
    | false => exact Bool.and_false _
    | true => rw [getLsbD_placeOperands hfit (not_covers_of_mask hk hmask), Bool.false_and]
  rw [BitVec.and_or_distrib_right, matchWord_and_mask, hzero, BitVec.or_zero]

/-- The word of operands that fit holds them in the fields of its mnemonic. -/
theorem read_placed {m : Mnemonic} {os : List Operand} (hfit : operandsFit os m.operands = true) :
    m.operands.map (·.read (m.matchWord ||| placeOperands os m.operands)) = os := by
  have hread : ∀ f ∈ m.operands,
      f.read (m.matchWord ||| placeOperands os m.operands) = f.read (placeOperands os m.operands) := by
    intro f hf
    rw [Field.read_eq_read_iff]
    intro k hk
    rw [BitVec.getLsbD_or, getLsbD_matchWord_of_covers hf hk, Bool.false_or]
  rw [List.map_congr_left hread, read_placeOperands hfit (operands_apart m)]

/-- What a word's fields read fits the fields. -/
theorem operandsFit_map_read (fs : List Field) (w : Word32) : operandsFit (fs.map (·.read w)) fs = true := by
  induction fs with
  | nil => rfl
  | cons f fs ih =>
    have hf : (f.read w).fits f = true := by
      rw [fits_iff, Field.read, f.value_operand]
      exact ⟨f.ofKind_operand _, BitVec.isLt _⟩
    exact operandsFit_cons.mpr ⟨hf, ih⟩

/-- Settles O6: the assembled word of a line matches the row of its mnemonic and holds its operands; for the line of an
instruction the instruction's word does too, and no other. -/
theorem assemblerAndDecoderAgree : Obligations.AssemblerAndDecoderAgree := by
  constructor
  · intro i
    have hfit := operandsFit_map_read i.mnemonic.operands (encode i)
    rw [toSource_eq_read, assemble_eq_some_iff]
    exact ⟨hfit, eq_of_same_row_of_same_fields (placed_and_mask hfit) (encode_and_mask i) (read_placed hfit)⟩
  · rintro ⟨m, os⟩ w h
    obtain ⟨hfit, rfl⟩ := assemble_eq_some_iff.mp h
    refine ⟨_, decode_eq_ok_iff.mpr ⟨m, placed_and_mask hfit, rfl⟩, ?_⟩
    rw [toSource_operandsOf, read_placed hfit]

end Sys2Proof

/-! ## Settling the framer family (41_framer.md): one transaction, and what it leaves by the Transport's answer -/

namespace Sys2Proof.Machine

open Sys2Proof.Safety

/-! ### The framer patterns as the match and each operand at its place (30_encoding.md R81, R82) -/

section Patterns

variable (m : Mnemonic) (sa : SlaveAddr) (ra : Byte) (cw : Word16) (n : BitVec 5)

theorem wordX_eq_or :
    wordX m sa ra n = m.matchWord ||| (sa.setWidth 32 <<< 16) ||| (ra.setWidth 32 <<< 8) ||| n.setWidth 32 := by
  unfold wordX Mnemonic.matchWord
  grind

theorem wordC_eq_or : wordC m sa cw = m.matchWord ||| (sa.setWidth 32 <<< 16) ||| cw.setWidth 32 := by
  unfold wordC Mnemonic.matchWord
  grind

theorem wordXR_eq_or : wordXR m sa n = m.matchWord ||| (sa.setWidth 32 <<< 16) ||| n.setWidth 32 := by
  unfold wordXR Mnemonic.matchWord
  grind

end Patterns

/-! ### How a command ends by its operand check -/

theorem exec_of_validationCause {i : Instr} {s : State} (h : validationCause i s) :
    exec i s = .next (s.prologue.raise .validationError) := by
  have hok : operandsOk i s = false := by simpa [h] using operandsOk_iff i s
  rw [exec_eq, hok, checked_false]

theorem exec_of_not_validationCause {i : Instr} {s : State} (h : ¬validationCause i s) :
    exec i s = .next (rule i s.prologue) := by
  rw [exec_eq, (operandsOk_iff i s).mpr h, checked_true]

/-- Where R233 gives a cause, the command writes ERR, MAL and STK alone (60_exceptions.md R236). -/
theorem rejected_of_validationCause {i : Instr} {s : State} (h : validationCause i s) :
    rejected i s .validationError := by
  have hflags : sameFlags s (s.prologue.raise .validationError) := by simp [sameFlags]
  exact ⟨_, exec_of_validationCause h, raised_raise (by simp) _, hflags, fun _ => rfl, fun _ => rfl,
    ⟨⟨rfl, rfl⟩, rfl, rfl⟩, ⟨rfl, rfl, rfl⟩, rfl, rfl⟩

/-! ### A transaction by the Transport's answer (20_memory.md R58, 41_framer.md R112) -/

section Answer

variable {s : State} {sa : SlaveAddr} {wr : Option (List Byte)} {rlen : Nat} {bytes : Vector Byte 16}

theorem transferResult_of_busErr (h : s.nextDraw = .busErr) : s.transferResult rlen = .busErr := by
  rw [State.transferResult, h, answerFor]

theorem transferResult_of_ok (h : s.nextDraw = .ok bytes) : s.transferResult rlen = .ok (bytes.toList.take rlen) := by
  rw [State.transferResult, h, answerFor]

theorem transact_of_busErr (h : s.nextDraw = .busErr) :
    s.transact sa wr rlen = (s.transferred sa wr rlen).raise .busError := by
  simp only [State.transact, transferResult_of_busErr h]

theorem transact_of_ok (h : s.nextDraw = .ok bytes) :
    s.transact sa wr rlen = (s.transferred sa wr rlen).writeBytes 0 (bytes.toList.take rlen) := by
  simp only [State.transact, transferResult_of_ok h]

/-- A completing transaction puts the answer's bytes in the first `rlen` B registers and leaves the others (R116). -/
theorem getB_transact_of_ok (h : s.nextDraw = .ok bytes) (hr : rlen ≤ 16) (k : BIndex) :
    (s.transact sa wr rlen).getB k = if k.toNat < rlen then bytes[k.toNat]'k.isLt else s.getB k := by
  have hlen : (bytes.toList.take rlen).length = rlen := by simp [hr]
  rw [transact_of_ok h, getB_writeBytes _ _ _ (by omega)]
  by_cases hk : k.toNat < rlen <;> simp [hlen, hk]

end Answer

/-! ### The two ends of a framer command (R112) -/

/-- The framer command's transaction completes: the read phase's bytes stand in the B registers from B0, no other register
but STATUS changed, nor FLAG, FV0 or FV1. The other end is `busFailed`. -/
def busCompleted (i : Instr) (s : State) (sa : SlaveAddr) (wr : Option (List Byte)) (rlen : Nat)
    (bytes : Vector Byte 16) : Prop :=
  ∃ t, exec i s = .next t
    ∧ (∀ k : BIndex, t.getB k = if k.toNat < rlen then bytes[k.toNat]'k.isLt else s.getB k)
    ∧ succeeded s t false ∧ sameFlags s t ∧ sameV s t ∧ sameWords s t
    ∧ oneTransaction s t { sa := sa, wr := wr, rlen := rlen, result := .ok (bytes.toList.take rlen) }
    ∧ sameHost s t

/-- The end of a framer command without a read phase whose transaction completes: no register but STATUS changed. -/
def writeCompleted (i : Instr) (s : State) (sa : SlaveAddr) (wr : List Byte) : Prop :=
  ∃ t, exec i s = .next t ∧ succeeded s t false ∧ sameFlags s t ∧ sameB s t ∧ sameV s t ∧ sameWords s t
    ∧ oneTransaction s t { sa := sa, wr := some wr, rlen := 0, result := .ok [] } ∧ sameHost s t

/-- A command's transaction leaves every register but B and STATUS, and of STATUS the flags, whatever its result. -/
theorem transact_prologue_frame (s : State) (sa : SlaveAddr) (wr : Option (List Byte)) (rlen : Nat) :
    sameFlags s (s.prologue.transact sa wr rlen) ∧ sameV s (s.prologue.transact sa wr rlen)
      ∧ sameWords s (s.prologue.transact sa wr rlen) ∧ sameHost s (s.prologue.transact sa wr rlen) := by
  simp [sameFlags, sameV, sameWords, sameW, sameHost]

section Ends

variable {i : Instr} {s : State} {sa : SlaveAddr} {wr : Option (List Byte)} {rlen : Nat}

/-- A framer command whose Transfer fails. -/
theorem busFailed_of_exec_eq_transact (hx : exec i s = .next (s.prologue.transact sa wr rlen))
    (hd : s.nextDraw = .busErr) : busFailed i s { sa := sa, wr := wr, rlen := rlen, result := .busErr } := by
  have heq : s.prologue.transact sa wr rlen = (s.prologue.transferred sa wr rlen).raise .busError :=
    transact_of_busErr hd
  have hraised : raised (s.prologue.transact sa wr rlen) .busError := heq ▸ raised_raise (by simp) _
  have hB : sameB s (s.prologue.transact sa wr rlen) := fun _ => heq ▸ rfl
  have hone := oneTransaction_transact s.prologue sa wr rlen
  rw [transferResult_of_busErr (s := s.prologue) hd] at hone
  obtain ⟨hflags, hV, hwords, hhost⟩ := transact_prologue_frame s sa wr rlen
  exact ⟨_, hx, hraised, hflags, hB, hV, hwords, hone, hhost⟩

/-- A framer command whose Transfer completes. -/
theorem busCompleted_of_exec_eq_transact {bytes : Vector Byte 16}
    (hx : exec i s = .next (s.prologue.transact sa wr rlen)) (hr : rlen ≤ 16) (hd : s.nextDraw = .ok bytes) :
    busCompleted i s sa wr rlen bytes := by
  have hsucceeded : succeeded s (s.prologue.transact sa wr rlen) false := by
    simp [succeeded, transact_of_ok (s := s.prologue) hd]
  have hone := oneTransaction_transact s.prologue sa wr rlen
  rw [transferResult_of_ok (s := s.prologue) hd] at hone
  obtain ⟨hflags, hV, hwords, hhost⟩ := transact_prologue_frame s sa wr rlen
  exact ⟨_, hx, getB_transact_of_ok (s := s.prologue) hd hr, hsucceeded, hflags, hV, hwords, hone, hhost⟩

/-- Without a read phase the answer's bytes play no part: any answer but a bus error completes the command. -/
theorem writeCompleted_of_exec_eq_transact {payload : List Byte}
    (hx : exec i s = .next (s.prologue.transact sa (some payload) 0)) (hd : s.nextDraw ≠ .busErr) :
    writeCompleted i s sa payload := by
  cases hans : s.nextDraw with
  | busErr => exact absurd hans hd
  | ok bytes =>
    obtain ⟨t, ht, hB, hsucceeded, hflags, hV, hwords, hone, hhost⟩ :=
      busCompleted_of_exec_eq_transact hx (Nat.zero_le 16) hans
    exact ⟨t, ht, hsucceeded, hflags, fun k => by simpa using hB k, hV, hwords, hone, hhost⟩

end Ends

/-! ### The commands -/

/-- XWR's write phase: the register address and B0 to B(N−1) (R115). -/
theorem exec_xwr {sa : BitVec 7} {ra : BitVec 8} {n : BitVec 5} (h : n.toNat ≤ 15) (s : State) :
    exec (.xwr sa ra n) s
      = .next (s.prologue.transact sa
          (some (ra :: (List.range n.toNat).map fun k => s.getB (BitVec.ofNat 4 k))) 0) := by
  have hv : ¬validationCause (.xwr sa ra n) s := Nat.not_lt.mpr h
  rw [exec_of_not_validationCause hv, rule, bytesFrom_eq_map_range]
  simp

/-- XCMD's write phase: the two bytes of the command word as numbers, the most significant first (R120). -/
theorem exec_xcmd (sa : BitVec 7) (cw : BitVec 16) (s : State) :
    exec (.xcmd sa cw) s
      = .next (s.prologue.transact sa
          (some [BitVec.ofNat 8 (cw.toNat / 256), BitVec.ofNat 8 (cw.toNat % 256)]) 0) := by
  have hhi : cw.toNat / 256 = (cw.extractLsb' 8 8).toNat := (toNat_topByte (k := 8) cw).symm
  have hlo : cw.toNat % 256 = (cw.extractLsb' 0 8).toNat := (toNat_lowByte cw).symm
  rw [exec_of_not_validationCause id, rule, hhi, hlo]
  simp only [BitVec.ofNat_toNat, BitVec.setWidth_eq]

/-- XRD's transaction (R116). -/
theorem exec_xrd {sa : BitVec 7} {ra : BitVec 8} {n : BitVec 5} (h1 : 1 ≤ n.toNat) (h16 : n.toNat ≤ 16) (s : State) :
    exec (.xrd sa ra n) s = .next (s.prologue.transact sa (some [ra]) n.toNat) :=
  exec_of_not_validationCause (i := .xrd sa ra n) (not_or.mpr ⟨by omega, by omega⟩)

/-- XRDRAW's transaction (R121). -/
theorem exec_xrdraw {sa : BitVec 7} {n : BitVec 5} (h1 : 1 ≤ n.toNat) (h16 : n.toNat ≤ 16) (s : State) :
    exec (.xrdraw sa n) s = .next (s.prologue.transact sa none n.toNat) :=
  exec_of_not_validationCause (i := .xrdraw sa n) (not_or.mpr ⟨by omega, by omega⟩)

/-- Settles O14: past its length check XWR is one transaction without a read phase. -/
theorem xwrSendsAddressAndPayload : Obligations.XwrSendsAddressAndPayload := by
  intro s sa ra n
  exact ⟨wordX_eq_or .xwr sa ra n, fun hn => rejected_of_validationCause hn,
    fun hn hd => busFailed_of_exec_eq_transact (exec_xwr hn s) hd,
    fun hn hd => writeCompleted_of_exec_eq_transact (exec_xwr hn s) hd⟩

/-- Settles O15: past its length check XRD is one transaction that reads N bytes. -/
theorem xrdReadsBytesIntoB : Obligations.XrdReadsBytesIntoB := by
  intro s sa ra n
  exact ⟨wordX_eq_or .xrd sa ra n, fun hn => rejected_of_validationCause hn,
    fun h1 h16 hd => busFailed_of_exec_eq_transact (exec_xrd h1 h16 s) hd,
    fun _ h1 h16 hd => busCompleted_of_exec_eq_transact (exec_xrd h1 h16 s) h16 hd⟩

/-- Settles O16: XCMD checks nothing and is one transaction without a read phase. -/
theorem xcmdSendsTheCommandWord : Obligations.XcmdSendsTheCommandWord := by
  intro s sa cw
  exact ⟨wordC_eq_or .xcmd sa cw, fun hd => busFailed_of_exec_eq_transact (exec_xcmd sa cw s) hd,
    fun hd => writeCompleted_of_exec_eq_transact (exec_xcmd sa cw s) hd⟩

/-- Settles O17: past its length check XRDRAW is one transaction that reads N bytes and writes none. -/
theorem xrdrawReadsWithoutWritePhase : Obligations.XrdrawReadsWithoutWritePhase := by
  intro s sa n
  exact ⟨wordXR_eq_or .xrdraw sa n, fun hn => rejected_of_validationCause hn,
    fun h1 h16 hd => busFailed_of_exec_eq_transact (exec_xrdraw h1 h16 s) hd,
    fun _ h1 h16 hd => busCompleted_of_exec_eq_transact (exec_xrdraw h1 h16 s) h16 hd⟩

end Sys2Proof.Machine

/-! ## Settling the BCD family (42_bcd.md): the two formulas, and the commands that move one byte through them -/

namespace Sys2Proof.Machine

open Sys2Proof.Safety

/-! ### BCD as numbers (R140 to R142) -/

theorem mal_eq_decide (x : Byte) : mal x = decide (x.toNat / 16 > 9 ∨ x.toNat % 16 > 9) := (Bool.decide_or _ _).symm

theorem mal_iff (x : Byte) : mal x = true ↔ x.toNat / 16 > 9 ∨ x.toNat % 16 > 9 := by
  rw [mal_eq_decide, decide_eq_true_iff]

/-- A byte is well formed where both its nibbles are decimal digits (R141). -/
theorem mal_eq_false_iff (x : Byte) : mal x = false ↔ x.toNat / 16 ≤ 9 ∧ x.toNat % 16 ≤ 9 := by
  rw [mal_eq_decide, decide_eq_false_iff_not, not_or, not_lt, not_lt]

/-- Two digits make a number up to 99, which `enc` takes (R140, R142). -/
theorem dec_le_of_mal_eq_false {x : Byte} (h : mal x = false) : (dec x).toNat ≤ 99 := by
  obtain ⟨htens, hunits⟩ := (mal_eq_false_iff x).mp h
  rw [dec_toNat]
  omega

/-- The nibbles of an encoded value are its decimal digits (R142). -/
theorem nibbles_enc {v : Byte} (h : v.toNat ≤ 99) :
    (enc v).toNat / 16 = v.toNat / 10 ∧ (enc v).toNat % 16 = v.toNat % 10 := by
  rw [enc_toNat v h]
  omega

/-- The decimal digits of a decoded byte are its nibbles, where these are digits (R140). -/
theorem digits_dec {x : Byte} (h : mal x = false) :
    (dec x).toNat / 10 = x.toNat / 16 ∧ (dec x).toNat % 10 = x.toNat % 16 := by
  obtain ⟨-, hunits⟩ := (mal_eq_false_iff x).mp h
  rw [dec_toNat]
  omega

theorem dec_enc {v : Byte} (h : v.toNat ≤ 99) : dec (enc v) = v := by
  obtain ⟨htens, hunits⟩ := nibbles_enc h
  rw [← BitVec.toNat_inj, dec_toNat, htens, hunits]
  omega

theorem mal_enc {v : Byte} (h : v.toNat ≤ 99) : mal (enc v) = false := by
  obtain ⟨htens, hunits⟩ := nibbles_enc h
  rw [mal_eq_false_iff, htens, hunits]
  omega

theorem enc_dec {x : Byte} (h : mal x = false) : enc (dec x) = x := by
  obtain ⟨htens, hunits⟩ := digits_dec h
  rw [← BitVec.toNat_inj, enc_toNat _ (dec_le_of_mal_eq_false h), htens, hunits]
  omega

/-- Settles O18: the value of `dec` is the formula, and the bounds are bounds of the formula. -/
theorem decAndMalAreTheFormulas : Obligations.DecAndMalAreTheFormulas := by
  intro x
  have hle : (dec x).toNat ≤ 165 := by
    have hx := x.isLt
    rw [dec_toNat]
    omega
  exact ⟨dec_toNat x, hle, mal_iff x, dec_le_of_mal_eq_false⟩

/-- Settles O19: `enc` and `dec` exchange the two digits of a number with the two nibbles of a byte. -/
theorem bcdRoundTrips : Obligations.BcdRoundTrips :=
  ⟨fun _ h => ⟨dec_enc h, mal_enc h⟩, fun _ => enc_dec⟩

/-! ### A command that writes B or V alone -/

/-- What `onlyB` and `onlyV` share: a command that writes no flag and no CRC and issues no transaction leaves everything
but B, V and the ERR, MAL and STK of STATUS. -/
theorem frame_rule {i : Instr} (hflag : writesFlag i.mnemonic = false) (hfv : writesFv i.mnemonic = false)
    (hcrc : writesCrc i.mnemonic = false) (hframer : isFramer i.mnemonic = false) (s : State) :
    sameWords s (rule i s.prologue) ∧ sameFlags s (rule i s.prologue) ∧ noTransaction s (rule i s.prologue)
      ∧ sameHost s (rule i s.prologue) := by
  have hpair : i.mnemonic ≠ .frmpair := fun h => by simp [h, writesFv] at hfv
  have hser : i.mnemonic ≠ .frmser := fun h => by simp [h, writesFv] at hfv
  have hwords : sameWords s (rule i s.prologue) :=
    ⟨sameW_rule hpair s.prologue, SN_rule hser s.prologue, CRC_rule hcrc s.prologue⟩
  have hflags : sameFlags s (rule i s.prologue) := by simp [sameFlags, flag_rule hflag, fv_rule hfv]
  exact ⟨hwords, hflags, noTransaction_rule hframer s.prologue, sameHost_rule i s.prologue⟩

/-! ### The commands -/

/-- Format BV as the match and each operand at its place (30_encoding.md R81, R82). -/
theorem wordBV_eq_or (m : Mnemonic) (vr : BitVec 4) (br : BIndex) :
    wordBV m vr br = m.matchWord ||| (vr.setWidth 32 <<< 8) ||| br.setWidth 32 := by
  unfold wordBV Mnemonic.matchWord
  grind

/-- A legal VR names the V register of its number. -/
theorem eq_valueIndex_iff {vr : BitVec 4} (h : vr.toNat ≤ 7) (j : VIndex) : j = valueIndex vr ↔ j.toNat = vr.toNat := by
  have hvr : (valueIndex vr).toNat = vr.toNat := by
    rw [valueIndex, BitVec.toNat_setWidth]
    omega
  rw [← BitVec.toNat_inj, hvr]

/-- Settles O20: past its check of VR, BCDDEC writes the decoded byte to V[VR] and the byte's test to MAL. -/
theorem bcddecDecodesOneByte : Obligations.BcddecDecodesOneByte := by
  intro s vr br
  refine ⟨wordBV_eq_or .bcddec vr br, fun hvr => rejected_of_validationCause hvr, fun hvr => ?_⟩
  have hok : ¬validationCause (.bcddec vr br) s := Nat.not_lt.mpr hvr
  refine ⟨_, exec_of_not_validationCause hok, fun j => ?_, ?_, getB_rule rfl s.prologue,
    frame_rule rfl rfl rfl rfl s⟩
  · simp only [rule, getV_setMal, getV_setV, getV_prologue, getB_prologue, eq_valueIndex_iff hvr, apply_ite BitVec.toNat,
      dec_toNat]
  · simp [succeeded, rule, mal_eq_decide]

/-- Settles O21: past its check of VR and of the value, BCDENC writes the encoded value to B[BR]. -/
theorem bcdencEncodesOneValue : Obligations.BcdencEncodesOneValue := by
  intro s br vr
  refine ⟨wordBV_eq_or .bcdenc vr br, fun hv => rejected_of_validationCause hv, fun hvr hv => ?_⟩
  have hok : ¬validationCause (.bcdenc br vr) s := not_or.mpr ⟨Nat.not_lt.mpr hvr, Nat.not_lt.mpr hv⟩
  refine ⟨_, exec_of_not_validationCause hok, fun j => ?_, ?_, fun _ => getV_rule rfl s.prologue,
    frame_rule rfl rfl rfl rfl s⟩
  · simp only [rule, getB_setB, getB_prologue, getV_prologue, valueIndex, apply_ite BitVec.toNat, enc_toNat _ hv]
  · simp [succeeded, rule]

end Sys2Proof.Machine

/-! ## Settling the field codec family (43_field_codec.md): the time frame, the alarm frames and the alarm bits -/

namespace Sys2Proof.Machine

open Sys2Proof.Safety

/-! ### The patterns as the match and each operand at its place (30_encoding.md R81, R82) -/

theorem wordB_eq_or (m : Mnemonic) (br : BIndex) : wordB m br = m.matchWord ||| br.setWidth 32 := by
  unfold wordB Mnemonic.matchWord
  grind

theorem wordBP_eq_or (m : Mnemonic) (p : Byte) (br : BIndex) :
    wordBP m p br = m.matchWord ||| (p.setWidth 32 <<< 8) ||| br.setWidth 32 := by
  unfold wordBP Mnemonic.matchWord
  grind

/-! ### The bits of a byte as a number -/

/-- Bit `k` of a byte is binary digit `k` of its number. -/
theorem getLsbD_iff (x : Byte) (k : Nat) : x.getLsbD k = true ↔ x.toNat / 2 ^ k % 2 = 1 := by
  rw [BitVec.getLsbD, Nat.testBit_eq_decide_div_mod_eq, decide_eq_true_iff]

/-- A byte below `2 ^ k` has bit `k` clear. -/
theorem getLsbD_eq_false_of_lt {x : Byte} {k : Nat} (h : x.toNat < 2 ^ k) : x.getLsbD k = false :=
  Nat.testBit_lt_two_pow h

/-- Past bit 7 any two bytes agree. -/
theorem getLsbD_congr_of_lt {x y : Byte} {k : Nat} (h : k < 8 → x.getLsbD k = y.getLsbD k) :
    x.getLsbD k = y.getLsbD k := by
  rcases Nat.lt_or_ge k 8 with hlt | hge
  · exact h hlt
  · rw [BitVec.getLsbD_of_ge _ _ hge, BitVec.getLsbD_of_ge _ _ hge]

theorem toNat_and_0x1F (x : Byte) : (x &&& 0x1F).toNat = x.toNat % 32 := Nat.and_two_pow_sub_one_eq_mod x.toNat 5

theorem toNat_and_0x3F (x : Byte) : (x &&& 0x3F).toNat = x.toNat % 64 := Nat.and_two_pow_sub_one_eq_mod x.toNat 6

theorem toNat_and_0x7F (x : Byte) : (x &&& 0x7F).toNat = x.toNat % 128 := Nat.and_two_pow_sub_one_eq_mod x.toNat 7

/-! ### The hour fold (R150) -/

section HourFold

variable {b : Byte}

/-- The 12-hour path: five bits of digits and 12 for PM, which does not wrap. -/
theorem decHour_toNat_of_12h (h : b.getLsbD 6 = true) :
    (decHour b).toNat
      = b.toNat % 32 / 16 * 10 + b.toNat % 16 + (if b.toNat / 32 % 2 = 1 then 12 else 0) := by
  have hdigits : (dec (b &&& 0x1F)).toNat = b.toNat % 32 / 16 * 10 + b.toNat % 16 := by
    rw [dec_toNat, toNat_and_0x1F]
    omega
  have hpm : (if b.getLsbD 5 then (12 : Byte) else 0).toNat = if b.toNat / 32 % 2 = 1 then 12 else 0 := by
    rw [apply_ite BitVec.toNat]
    exact if_congr (getLsbD_iff b 5) rfl rfl
  rw [decHour, if_pos h, BitVec.toNat_add, hdigits, hpm]
  split <;> omega

/-- The 24-hour path: six bits of digits. -/
theorem decHour_toNat_of_24h (h : b.getLsbD 6 = false) :
    (decHour b).toNat = b.toNat % 64 / 16 * 10 + b.toNat % 16 := by
  rw [decHour, h, if_neg Bool.false_ne_true, dec_toNat, toNat_and_0x3F]
  omega

theorem malHour_iff_of_12h (h : b.getLsbD 6 = true) :
    malHour b = true ↔ b.toNat % 32 / 16 > 9 ∨ b.toNat % 16 > 9 := by
  rw [malHour, if_pos h, mal_iff, toNat_and_0x1F]
  omega

theorem malHour_iff_of_24h (h : b.getLsbD 6 = false) :
    malHour b = true ↔ b.toNat % 64 / 16 > 9 ∨ b.toNat % 16 > 9 := by
  rw [malHour, h, if_neg Bool.false_ne_true, mal_iff, toNat_and_0x3F]
  omega

end HourFold

/-- Settles O22: by the path bit 6 selects, each a formula of the byte's number. -/
theorem hourFoldIsTheFormula : Obligations.HourFoldIsTheFormula := by
  intro b
  dsimp only
  cases h : b.getLsbD 6 with
  | true =>
    have hpath : b.toNat / 64 % 2 = 1 := (getLsbD_iff b 6).mp h
    simp only [if_pos hpath]
    refine ⟨decHour_toNat_of_12h h, malHour_iff_of_12h h, ?_, by decide⟩
    rw [decHour_toNat_of_12h h]
    split <;> omega
  | false =>
    have hpath : ¬b.toNat / 64 % 2 = 1 := (getLsbD_iff b 6).not.mp (Bool.eq_false_iff.mp h)
    simp only [if_neg hpath]
    refine ⟨decHour_toNat_of_24h h, malHour_iff_of_24h h, ?_, by decide⟩
    rw [decHour_toNat_of_24h h]
    omega

/-! ### A frame decoded into V -/

section DecodedFields

variable (s : State) (b : BIndex)

/-- The clock sub-frame decoded (R154). -/
theorem getV_decodeClock :
    (s.decodeClock b).getV 0 = dec (s.getB b) ∧ (s.decodeClock b).getV 1 = dec (s.getB (b + 1))
      ∧ (s.decodeClock b).getV 2 = decHour (s.getB (b + 2)) := by
  simp [State.decodeClock]

/-- The date sub-frame decoded (R156). -/
theorem getV_decodeDate :
    (s.decodeDate b).getV 3 = dec (s.getB b) ∧ (s.decodeDate b).getV 4 = dec (s.getB (b + 1))
      ∧ (s.decodeDate b).getV 5 = dec (s.getB (b + 2) &&& 0x7F) ∧ (s.decodeDate b).getV 6 = dec (s.getB (b + 3)) := by
  simp [State.decodeDate]

end DecodedFields

/-- TIMEDEC reads the clock sub-frame into V0 to V2 and, three bytes on, the date sub-frame into the others (R151). -/
theorem getV_rule_timedec (s : State) (br : BIndex) (j : VIndex) :
    (rule (.timedec br) s).getV j
      = if j.toNat < 3 then (s.decodeClock br).getV j else ((s.decodeClock br).decodeDate (br + 3)).getV j := by
  rw [rule, getV_setMal]
  split
  · next hj => exact getV_decodeDate_of_outside _ _ (.inl hj)
  · rfl

/-- Settles O23: the clock sub-frame and, three bytes on, the date sub-frame, which write different V registers. -/
theorem timedecDecodesTheTimeFrame : Obligations.TimedecDecodesTheTimeFrame := by
  intro s br
  refine ⟨wordB_eq_or .timedec br, fun hbr => rejected_of_validationCause hbr, fun hbr => ?_⟩
  have hok : ¬validationCause (.timedec br) s := Nat.not_lt.mpr hbr
  obtain ⟨h0, h1, h2⟩ := getV_decodeClock s.prologue br
  obtain ⟨h3, h4, h5, h6⟩ := getV_decodeDate (s.prologue.decodeClock br) (br + 3)
  refine ⟨_, exec_of_not_validationCause hok, ?_, ?_, ?_, ?_, ?_, ?_, ?_, getV_rule rfl s.prologue, ?_,
    getB_rule rfl s.prologue, frame_rule rfl rfl rfl rfl s⟩
  · simpa [getV_rule_timedec] using h0
  · simpa [getV_rule_timedec] using h1
  · simpa [getV_rule_timedec] using h2
  · simpa [getV_rule_timedec] using h3
  · simpa [getV_rule_timedec, BitVec.add_assoc] using h4
  · simpa [getV_rule_timedec, BitVec.add_assoc] using h5
  · simpa [getV_rule_timedec, BitVec.add_assoc] using h6
  · simp [succeeded, rule, State.malClock, State.malDate, BitVec.add_assoc, Bool.or_assoc]

/-- Settles O25: past its base check CLKDEC decodes the clock sub-frame. -/
theorem clkdecDecodesTheClockFrame : Obligations.ClkdecDecodesTheClockFrame := by
  intro s br
  refine ⟨wordB_eq_or .clkdec br, fun hbr => rejected_of_validationCause hbr, fun hbr => ?_⟩
  have hok : ¬validationCause (.clkdec br) s := Nat.not_lt.mpr hbr
  obtain ⟨h0, h1, h2⟩ := getV_decodeClock s.prologue br
  refine ⟨_, exec_of_not_validationCause hok, h0, h1, h2, fun j hj => getV_decodeClock_of_gt s.prologue br hj, ?_,
    getB_rule rfl s.prologue, frame_rule rfl rfl rfl rfl s⟩
  simp [succeeded, rule, State.malClock]

/-- Settles O27: past its base check DATEDEC decodes the date sub-frame. -/
theorem datedecDecodesTheDateFrame : Obligations.DatedecDecodesTheDateFrame := by
  intro s br
  refine ⟨wordB_eq_or .datedec br, fun hbr => rejected_of_validationCause hbr, fun hbr => ?_⟩
  have hok : ¬validationCause (.datedec br) s := Nat.not_lt.mpr hbr
  obtain ⟨h3, h4, h5, h6⟩ := getV_decodeDate s.prologue br
  refine ⟨_, exec_of_not_validationCause hok, h3, h4, h5, h6,
    fun j hj => getV_decodeDate_of_outside s.prologue br (hj.imp_right (by omega)), ?_, getB_rule rfl s.prologue,
    frame_rule rfl rfl rfl rfl s⟩
  simp [succeeded, rule, State.malDate]

/-! ### A frame encoded into B -/

section Frames

variable (s : State) (m : Byte)

/-! The prologue changes no V register, so the frames are those of the state before it. -/

@[simp] theorem clockFrame_prologue : s.prologue.clockFrame = s.clockFrame := by
  simp only [State.clockFrame, getV_prologue]

@[simp] theorem dateFrame_prologue : s.prologue.dateFrame = s.dateFrame := by
  simp only [State.dateFrame, getV_prologue]

@[simp] theorem alarm1Frame_prologue : s.prologue.alarm1Frame m = s.alarm1Frame m := by
  simp only [State.alarm1Frame, getV_prologue]

@[simp] theorem alarm2Frame_prologue : s.prologue.alarm2Frame m = s.alarm2Frame m := by
  simp only [State.alarm2Frame, getV_prologue]

end Frames

/-- The bytes `xs` stand in the B registers from `B[b]`. -/
def State.holds (t : State) (b : BIndex) (xs : List Byte) : Prop :=
  ∀ k x, xs[k]? = some x → t.getB (b + BitVec.ofNat 4 k) = x

section Holds

variable {t t' : State} {b : BIndex} {x : Byte} {xs ys : List Byte}

theorem State.holds.first (h : t.holds b xs) (hx : xs[0]? = some x) : t.getB b = x := by
  simpa using h 0 x hx

theorem State.holds.congr (h : t.holds b xs) (hsame : sameB t t') : t'.holds b xs := fun k x hk =>
  (hsame _).trans (h k x hk)

/-- The bytes after a first part stand its length further on. -/
theorem State.holds.of_append (h : t.holds b (xs ++ ys)) :
    t.holds b xs ∧ t.holds (b + BitVec.ofNat 4 xs.length) ys := by
  constructor <;> intro k x hk
  · obtain ⟨hlt, -⟩ := List.getElem?_eq_some_iff.mp hk
    exact h k x ((List.getElem?_append_left hlt).trans hk)
  · rw [BitVec.add_assoc, ← BitVec.ofNat_add]
    exact h _ x (by rwa [List.getElem?_append_right (by omega), Nat.add_sub_cancel_left])

end Holds

/-- The command completes with the bytes `xs` in the B registers from `B[br]`, no other register but STATUS changed, nor
FLAG, FV0 or FV1. -/
def frameWritten (i : Instr) (s : State) (br : BIndex) (xs : List Byte) : Prop :=
  ∃ t, exec i s = .next t ∧ t.holds br xs ∧ sameBOutside s t br xs.length ∧ succeeded s t false ∧ onlyB s t

/-- A command whose rule is a run of writes that ends at B15 or before. -/
theorem frameWritten_of_rule {i : Instr} {s : State} {br : BIndex} {xs : List Byte} (hok : ¬validationCause i s)
    (hrule : rule i s.prologue = s.prologue.writeBytes br xs) (hfits : br.toNat + xs.length ≤ 16) :
    frameWritten i s br xs := by
  have hx : exec i s = .next (s.prologue.writeBytes br xs) := by rw [exec_of_not_validationCause hok, hrule]
  refine ⟨_, hx, fun k x hk => ?_, sameBOutside_writeBytes _ _ _ hfits, ?_, ?_⟩
  · obtain ⟨hlt, rfl⟩ := List.getElem?_eq_some_iff.mp hk
    exact getB_writeBytes_at _ _ _ _ (by omega) hlt
  · simp [succeeded]
  · simp [onlyB, sameV, sameWords, sameW, sameFlags, noTransaction, sameHost]

/-- The clock fields in range as bounds (R158). -/
theorem clock_le_of_not_clockOut {s : State} (h : ¬clockOut s) :
    (s.getV 0).toNat ≤ 59 ∧ (s.getV 1).toNat ≤ 59 ∧ (s.getV 2).toNat ≤ 23 := by
  unfold clockOut at h
  omega

/-- The date fields in range as upper bounds (R158). -/
theorem date_le_of_not_dateOut {s : State} (h : ¬dateOut s) :
    (s.getV 3).toNat ≤ 7 ∧ (s.getV 4).toNat ≤ 31 ∧ (s.getV 5).toNat ≤ 12 ∧ (s.getV 6).toNat ≤ 99 := by
  unfold dateOut at h
  omega

theorem enc_hour_lt {v : Byte} (h : v.toNat ≤ 23) : (enc v).toNat < 64 := by
  rw [enc_toNat v (by omega)]
  omega

theorem enc_month_lt {v : Byte} (h : v.toNat ≤ 12) : (enc v).toNat < 128 := by
  rw [enc_toNat v (by omega)]
  omega

/-- The hour byte is written in 24-hour form (R151). -/
theorem getLsbD_enc_hour {s : State} (h : ¬clockOut s) : (enc (s.getV 2)).getLsbD 6 = false := by
  obtain ⟨-, -, hhour⟩ := clock_le_of_not_clockOut h
  exact getLsbD_eq_false_of_lt (enc_hour_lt hhour)

/-- The month byte is written without bit 7 (R151). -/
theorem getLsbD_enc_month {s : State} (h : ¬dateOut s) : (enc (s.getV 5)).getLsbD 7 = false := by
  obtain ⟨-, -, hmonth, -⟩ := date_le_of_not_dateOut h
  exact getLsbD_eq_false_of_lt (enc_month_lt hmonth)

section TimeFrames

variable {s : State} {br : BIndex}

/-- TIMEENC past its checks (R153). -/
theorem frameWritten_timeenc (hbr : br.toNat ≤ 9) (hc : ¬clockOut s) (hd : ¬dateOut s) :
    frameWritten (.timeenc br) s br (s.clockFrame ++ s.dateFrame) := by
  have hok : ¬validationCause (.timeenc br) s := not_or.mpr ⟨Nat.not_lt.mpr hbr, not_or.mpr ⟨hc, hd⟩⟩
  exact frameWritten_of_rule hok (by simp [rule]) (Nat.add_le_add_right hbr 7)

/-- CLKENC past its checks (R155). -/
theorem frameWritten_clkenc (hbr : br.toNat ≤ 13) (hc : ¬clockOut s) : frameWritten (.clkenc br) s br s.clockFrame := by
  have hok : ¬validationCause (.clkenc br) s := not_or.mpr ⟨Nat.not_lt.mpr hbr, hc⟩
  exact frameWritten_of_rule hok (by simp [rule]) (Nat.add_le_add_right hbr 3)

/-- DATEENC past its checks (R157). -/
theorem frameWritten_dateenc (hbr : br.toNat ≤ 12) (hd : ¬dateOut s) : frameWritten (.dateenc br) s br s.dateFrame := by
  have hok : ¬validationCause (.dateenc br) s := not_or.mpr ⟨Nat.not_lt.mpr hbr, hd⟩
  exact frameWritten_of_rule hok (by simp [rule]) (Nat.add_le_add_right hbr 4)

end TimeFrames

/-- Settles O24: past its checks TIMEENC writes the clock sub-frame and the date sub-frame after it. -/
theorem timeencEncodesTheTimeFrame : Obligations.TimeencEncodesTheTimeFrame := by
  intro s br
  refine ⟨wordB_eq_or .timeenc br, fun hv => rejected_of_validationCause hv, fun hbr hc hd => ?_⟩
  obtain ⟨t, hx, hB, hout, hsucceeded, honly⟩ := frameWritten_timeenc hbr hc hd
  have h2 : t.getB (br + 2) = enc (s.getV 2) := hB 2 _ rfl
  have h5 : t.getB (br + 5) = enc (s.getV 5) := hB 5 _ rfl
  exact ⟨t, hx, hB.first rfl, hB 1 _ rfl, h2, hB 3 _ rfl, hB 4 _ rfl, h5, hB 6 _ rfl, hout,
    h2 ▸ getLsbD_enc_hour hc, h5 ▸ getLsbD_enc_month hd, hsucceeded, honly⟩

/-- Settles O26: past its checks CLKENC writes the clock sub-frame. -/
theorem clkencEncodesTheClockFrame : Obligations.ClkencEncodesTheClockFrame := by
  intro s br
  refine ⟨wordB_eq_or .clkenc br, fun hv => rejected_of_validationCause hv, fun hbr hc => ?_⟩
  obtain ⟨t, hx, hB, hout, hsucceeded, honly⟩ := frameWritten_clkenc hbr hc
  have h2 : t.getB (br + 2) = enc (s.getV 2) := hB 2 _ rfl
  exact ⟨t, hx, hB.first rfl, hB 1 _ rfl, h2, hout, h2 ▸ getLsbD_enc_hour hc, hsucceeded, honly⟩

/-- Settles O28: past its checks DATEENC writes the date sub-frame. -/
theorem dateencEncodesTheDateFrame : Obligations.DateencEncodesTheDateFrame := by
  intro s br
  refine ⟨wordB_eq_or .dateenc br, fun hv => rejected_of_validationCause hv, fun hbr hd => ?_⟩
  obtain ⟨t, hx, hB, hout, hsucceeded, honly⟩ := frameWritten_dateenc hbr hd
  have h2 : t.getB (br + 2) = enc (s.getV 5) := hB 2 _ rfl
  exact ⟨t, hx, hB.first rfl, hB 1 _ rfl, h2, hB 3 _ rfl, hout, h2 ▸ getLsbD_enc_month hd, hsucceeded, honly⟩

/-! ### Fields encoded and decoded (R159) -/

/-- An hour in range takes the 24-hour path back. -/
theorem hour_roundTrip {v : Byte} (h : v.toNat ≤ 23) : decHour (enc v) = v ∧ malHour (enc v) = false := by
  have hlt := enc_hour_lt h
  have hbit : (enc v).getLsbD 6 = false := getLsbD_eq_false_of_lt hlt
  have hdigits : enc v &&& 0x3F = enc v := by rw [← BitVec.toNat_inj, toNat_and_0x3F, Nat.mod_eq_of_lt hlt]
  rw [decHour, malHour, hbit, if_neg Bool.false_ne_true, if_neg Bool.false_ne_true, hdigits]
  exact ⟨dec_enc (by omega), mal_enc (by omega)⟩

/-- A month in range has nothing in the bit that the decode masks. -/
theorem month_roundTrip {v : Byte} (h : v.toNat ≤ 12) : dec (enc v &&& 0x7F) = v ∧ mal (enc v &&& 0x7F) = false := by
  have hdigits : enc v &&& 0x7F = enc v := by
    rw [← BitVec.toNat_inj, toNat_and_0x7F, Nat.mod_eq_of_lt (enc_month_lt h)]
  rw [hdigits]
  exact ⟨dec_enc (by omega), mal_enc (by omega)⟩

section RoundTrip

variable {s t : State} {b : BIndex}

/-- A clock sub-frame encoded from fields in range decodes to them, no nibble malformed. -/
theorem clock_roundTrip (h : ¬clockOut s) (hB : t.holds b s.clockFrame) :
    (∀ j : VIndex, j.toNat ≤ 2 → (t.decodeClock b).getV j = s.getV j) ∧ t.malClock b = false := by
  have h0 : t.getB b = enc (s.getV 0) := hB.first rfl
  have h1 : t.getB (b + 1) = enc (s.getV 1) := hB 1 _ rfl
  have h2 : t.getB (b + 2) = enc (s.getV 2) := hB 2 _ rfl
  obtain ⟨hsecond, hminute, hhour⟩ := clock_le_of_not_clockOut h
  obtain ⟨hdec, hmal⟩ := hour_roundTrip hhour
  obtain ⟨hv0, hv1, hv2⟩ := getV_decodeClock t b
  constructor
  · intro j hj
    have hcases : j = 0 ∨ j = 1 ∨ j = 2 := by bv_omega
    rcases hcases with rfl | rfl | rfl
    · rw [hv0, h0, dec_enc (by omega)]
    · rw [hv1, h1, dec_enc (by omega)]
    · rw [hv2, h2, hdec]
  · rw [State.malClock, h0, h1, h2, mal_enc (by omega), mal_enc (by omega), hmal]
    rfl

/-- A date sub-frame encoded from fields in range decodes to them, no nibble malformed. -/
theorem date_roundTrip (h : ¬dateOut s) (hB : t.holds b s.dateFrame) :
    (∀ j : VIndex, 3 ≤ j.toNat → j.toNat ≤ 6 → (t.decodeDate b).getV j = s.getV j) ∧ t.malDate b = false := by
  have h3 : t.getB b = enc (s.getV 3) := hB.first rfl
  have h4 : t.getB (b + 1) = enc (s.getV 4) := hB 1 _ rfl
  have h5 : t.getB (b + 2) = enc (s.getV 5) := hB 2 _ rfl
  have h6 : t.getB (b + 3) = enc (s.getV 6) := hB 3 _ rfl
  obtain ⟨hweekday, hdate, hmonth, hyear⟩ := date_le_of_not_dateOut h
  obtain ⟨hdec, hmal⟩ := month_roundTrip hmonth
  obtain ⟨hv3, hv4, hv5, hv6⟩ := getV_decodeDate t b
  constructor
  · intro j hlo hhi
    have hcases : j = 3 ∨ j = 4 ∨ j = 5 ∨ j = 6 := by bv_omega
    rcases hcases with rfl | rfl | rfl | rfl
    · rw [hv3, h3, dec_enc (by omega)]
    · rw [hv4, h4, dec_enc (by omega)]
    · rw [hv5, h5, hdec]
    · rw [hv6, h6, dec_enc hyear]
  · rw [State.malDate, h3, h4, h5, h6, mal_enc (by omega), mal_enc (by omega), mal_enc hyear, hmal]
    rfl

end RoundTrip

/-- Settles O29: the clock and the date sub-frame each come back, and the time frame is the one and then the other. -/
theorem timeFramesRoundTrip : Obligations.TimeFramesRoundTrip := by
  intro s br
  refine ⟨fun hbr hc hd => ?_, fun hbr hc => ?_, fun hbr hd => ?_⟩
  · obtain ⟨t, hx, hB, -⟩ := frameWritten_timeenc hbr hc hd
    refine ⟨t, hx, fun t' hsame => ?_⟩
    obtain ⟨hclock, hdate⟩ : t'.prologue.holds br s.clockFrame ∧ t'.prologue.holds (br + 3) s.dateFrame :=
      (hB.congr hsame).of_append
    obtain ⟨hcV, hcmal⟩ := clock_roundTrip hc hclock
    obtain ⟨-, hdmal⟩ := date_roundTrip hd hdate
    obtain ⟨hdV, -⟩ := date_roundTrip hd (hdate.congr (t' := t'.prologue.decodeClock br) (getB_decodeClock _ _))
    have hok : ¬validationCause (.timedec br) t' := Nat.not_lt.mpr hbr
    refine ⟨_, exec_of_not_validationCause hok, fun j hj => ?_, ?_⟩
    · rw [getV_rule_timedec]
      split
      · next hlo => exact hcV j (by omega)
      · next hhi => exact hdV j (by omega) hj
    · simpa [rule, hcmal] using hdmal
  · obtain ⟨t, hx, hB, -⟩ := frameWritten_clkenc hbr hc
    refine ⟨t, hx, fun t' hsame => ?_⟩
    obtain ⟨hV, hmal⟩ := clock_roundTrip hc (hB.congr (t' := t'.prologue) hsame)
    have hok : ¬validationCause (.clkdec br) t' := Nat.not_lt.mpr hbr
    refine ⟨_, exec_of_not_validationCause hok, fun j hj => ?_, ?_⟩
    · simpa [rule] using hV j hj
    · simp [rule, hmal]
  · obtain ⟨t, hx, hB, -⟩ := frameWritten_dateenc hbr hd
    refine ⟨t, hx, fun t' hsame => ?_⟩
    obtain ⟨hV, hmal⟩ := date_roundTrip hd (hB.congr (t' := t'.prologue) hsame)
    have hok : ¬validationCause (.datedec br) t' := Nat.not_lt.mpr hbr
    refine ⟨_, exec_of_not_validationCause hok, fun j hlo hhi => ?_, ?_⟩
    · simpa [rule] using hV j hlo hhi
    · simp [rule, hmal]

/-! ### Alarm frames (R161 to R167) -/

theorem mem_alarm1Modes_iff (m : Byte) :
    m ∈ [0x0F, 0x0E, 0x0C, 0x08, 0x00, 0x10] ↔ m.toNat ∈ [0x0F, 0x0E, 0x0C, 0x08, 0x00, 0x10] :=
  List.contains_iff_mem.symm.trans (alarm1Modes_contains_iff m)

theorem mem_alarm2Modes_iff (m : Byte) :
    m ∈ [0x07, 0x06, 0x04, 0x00, 0x10] ↔ m.toNat ∈ [0x07, 0x06, 0x04, 0x00, 0x10] :=
  List.contains_iff_mem.symm.trans (alarm2Modes_contains_iff m)

/-- Settles O30: past its checks AL1ENC writes the alarm-1 frame, whose mask bits all stand in bit 7. -/
theorem al1encEncodesTheAlarm1Frame : Obligations.Al1encEncodesTheAlarm1Frame := by
  intro s br m
  refine ⟨wordBP_eq_or .al1enc m br, fun hv => ?_, fun hbr hm hc hd => ?_⟩
  · rw [mem_alarm1Modes_iff] at hv
    exact rejected_of_validationCause hv
  · have hok : ¬validationCause (.al1enc br m) s :=
      not_or.mpr ⟨Nat.not_lt.mpr hbr, not_or.mpr ⟨not_not.mpr ((mem_alarm1Modes_iff m).mp hm), not_or.mpr ⟨hc, hd⟩⟩⟩
    obtain ⟨t, hx, hB, hout, hsucceeded, honly⟩ :=
      frameWritten_of_rule (xs := s.alarm1Frame m) hok (by simp [rule]) (Nat.add_le_add_right hbr 4)
    exact ⟨t, hx, hB.first rfl, hB 1 _ rfl, hB 2 _ rfl, hB 3 _ rfl, hout, hsucceeded, honly⟩

/-- Settles O31: past its checks AL2ENC writes the alarm-2 frame, whose mask bits all stand in bit 7. -/
theorem al2encEncodesTheAlarm2Frame : Obligations.Al2encEncodesTheAlarm2Frame := by
  intro s br m
  refine ⟨wordBP_eq_or .al2enc m br, fun hv => ?_, fun hbr hm hout => ?_⟩
  · rw [mem_alarm2Modes_iff] at hv
    exact rejected_of_validationCause hv
  · have hok : ¬validationCause (.al2enc br m) s :=
      not_or.mpr ⟨Nat.not_lt.mpr hbr, not_or.mpr ⟨not_not.mpr ((mem_alarm2Modes_iff m).mp hm), hout⟩⟩
    obtain ⟨t, hx, hB, hout, hsucceeded, honly⟩ :=
      frameWritten_of_rule (xs := s.alarm2Frame m) hok (by simp [rule]) (Nat.add_le_add_right hbr 3)
    exact ⟨t, hx, hB.first rfl, hB 1 _ rfl, hB 2 _ rfl, hout, hsucceeded, honly⟩

/-! ### The alarm bits of a control or status byte (R170 to R176) -/

/-- The byte with the alarm's enable bits set (R172). -/
def enableAlarmBits (x which : Byte) : Byte := x ||| (if which = 1 then 0x05 else 0x02)

section AlarmRules

variable (s : State) (br : BIndex) (which : Byte)

theorem rule_alenable : rule (.alenable br which) s = s.setB br (enableAlarmBits (s.getB br) which) := rfl

theorem rule_aldisable : rule (.aldisable br which) s = s.setB br (clearAlarmBit (s.getB br) which) := rfl

theorem rule_alfired :
    rule (.alfired br which) s
      = (s.setFlag (alarmBit (s.getB br) which)).setB br (clearAlarmBit (s.getB br) which) := rfl

end AlarmRules

section AlarmBits

variable (x which : Byte)

theorem getLsbD_enableAlarmBits {k : Nat} (hk : k < 8) :
    (enableAlarmBits x which).getLsbD k
      = (x.getLsbD k || (if which = 1 then decide (k = 0 ∨ k = 2) else decide (k = 1))) := by
  rw [enableAlarmBits, BitVec.getLsbD_or]
  congr 1
  split <;> interval_cases k <;> rfl

theorem getLsbD_clearAlarmBit {k : Nat} (hk : k < 8) :
    (clearAlarmBit x which).getLsbD k = (x.getLsbD k && decide (k ≠ if which = 1 then 0 else 1)) := by
  rw [clearAlarmBit, alarmSel, BitVec.getLsbD_and]
  congr 1
  split <;> interval_cases k <;> rfl

/-- ALENABLE sets none of the bits 7:3 (R176). -/
theorem getLsbD_enableAlarmBits_of_ge {k : Nat} (hk : 3 ≤ k) : (enableAlarmBits x which).getLsbD k = x.getLsbD k := by
  refine getLsbD_congr_of_lt fun h8 => ?_
  rw [getLsbD_enableAlarmBits x which h8, decide_eq_false (by omega), decide_eq_false (by omega), ite_self,
    Bool.or_false]

/-- Clearing an alarm's bit keeps the bits 7:3 (R176). -/
theorem getLsbD_clearAlarmBit_of_ge {k : Nat} (hk : 3 ≤ k) : (clearAlarmBit x which).getLsbD k = x.getLsbD k := by
  have hne : k ≠ if which = 1 then 0 else 1 := by
    split <;> omega
  refine getLsbD_congr_of_lt fun h8 => ?_
  rw [getLsbD_clearAlarmBit x which h8, decide_eq_true hne, Bool.and_true]

theorem enableAlarmBits_idem : enableAlarmBits (enableAlarmBits x which) which = enableAlarmBits x which := by
  rw [enableAlarmBits, enableAlarmBits, BitVec.or_assoc, BitVec.or_self]

theorem clearAlarmBit_and_alarmSel : clearAlarmBit x which &&& alarmSel which = 0 := by
  rw [clearAlarmBit, BitVec.and_assoc, BitVec.and_comm (~~~_), BitVec.and_not_self]
  exact BitVec.and_zero

theorem clearAlarmBit_idem : clearAlarmBit (clearAlarmBit x which) which = clearAlarmBit x which := by
  rw [clearAlarmBit, clearAlarmBit, BitVec.and_assoc, BitVec.and_self]

theorem alarmBit_clearAlarmBit : alarmBit (clearAlarmBit x which) which = false := by
  simp [alarmBit, clearAlarmBit_and_alarmSel]

end AlarmBits

/-- A command that past the prologue writes one B register leaves every other and all else. -/
theorem setB_prologue_frame (s : State) (br : BIndex) (x : Byte) :
    (∀ j : BIndex, j ≠ br → (s.prologue.setB br x).getB j = s.getB j) ∧ succeeded s (s.prologue.setB br x) false
      ∧ onlyB s (s.prologue.setB br x) := by
  refine ⟨fun j hj => ?_, ?_, ?_⟩
  · rw [getB_setB, if_neg hj, getB_prologue]
  · simp [succeeded]
  · simp [onlyB, sameV, sameWords, sameW, sameFlags, noTransaction, sameHost]

/-- Settles O32: ALENTEST checks nothing and writes FLAG alone. -/
theorem alentestTestsUnderTheGlobalEnable : Obligations.AlentestTestsUnderTheGlobalEnable := by
  intro s br which
  refine ⟨wordBP_eq_or .alentest which br, _, exec_of_not_validationCause id, ?_, ?_, ?_, ?_, ?_⟩
  · simp [rule, alarmBit_eq]
  · simp [rule]
  · simp [rule]
  · simp [succeeded, rule]
  · exact ⟨fun _ => rfl, fun _ => rfl, ⟨⟨rfl, rfl⟩, rfl, rfl⟩, ⟨rfl, rfl, rfl⟩, rfl, rfl⟩

/-- Settles O33: ALENABLE checks nothing and sets its bits in `B[BR]`. -/
theorem alenableSetsTheEnableBits : Obligations.AlenableSetsTheEnableBits := by
  intro s br which
  refine ⟨wordBP_eq_or .alenable which br, _, exec_of_not_validationCause id, fun k hk => ?_,
    setB_prologue_frame s br _⟩
  simp only [rule_alenable, getB_setB, if_true, getB_prologue, getLsbD_enableAlarmBits _ _ hk]

/-- Settles O34: ALDISABLE checks nothing and clears its bit in `B[BR]`. -/
theorem aldisableClearsOneEnableBit : Obligations.AldisableClearsOneEnableBit := by
  intro s br which
  refine ⟨wordBP_eq_or .aldisable which br, _, exec_of_not_validationCause id, fun k hk => ?_,
    setB_prologue_frame s br _⟩
  simp only [rule_aldisable, getB_setB, if_true, getB_prologue, getLsbD_clearAlarmBit _ _ hk]

/-- Settles O35: ALFIRED checks nothing, reads its bit of `B[BR]` into FLAG and clears it there. -/
theorem alfiredConsumesOneFlag : Obligations.AlfiredConsumesOneFlag := by
  intro s br which
  refine ⟨wordBP_eq_or .alfired which br, _, exec_of_not_validationCause id, ?_, fun k hk => ?_, fun j hj => ?_, ?_, ?_,
    ?_, fun _ => rfl, ⟨⟨rfl, rfl⟩, rfl, rfl⟩, ⟨rfl, rfl, rfl⟩, rfl, rfl⟩
  · simp [rule_alfired, alarmBit_eq]
  · simp [rule_alfired, getLsbD_clearAlarmBit _ _ hk]
  · simp [rule_alfired, hj]
  · simp [rule_alfired]
  · simp [rule_alfired]
  · simp [succeeded, rule_alfired]

/-- Settles O36: each law is a law of the byte that the transform writes. -/
theorem alarmTransformLaws : Obligations.AlarmTransformLaws := by
  intro s br which
  refine ⟨_, _, _, _, _, _, _, exec_of_not_validationCause id, exec_of_not_validationCause id,
    exec_of_not_validationCause id, exec_of_not_validationCause id, exec_of_not_validationCause id,
    exec_of_not_validationCause id, exec_of_not_validationCause id, fun j => ?_, fun j => ?_, ?_, ?_,
    fun k hk => ⟨?_, ?_, ?_⟩⟩
  · by_cases hj : j = br <;> simp [rule_alenable, hj, enableAlarmBits_idem]
  · by_cases hj : j = br <;> simp [rule_aldisable, hj, clearAlarmBit_idem]
  · have hclear := clearAlarmBit_and_alarmSel (enableAlarmBits (s.getB br) which) which
    rw [alarmSel] at hclear
    simpa [rule_alenable, rule_aldisable] using hclear
  · simp [rule_alfired, alarmBit_clearAlarmBit]
  · simp [rule_alenable, getLsbD_enableAlarmBits_of_ge _ _ hk]
  · simp [rule_aldisable, getLsbD_clearAlarmBit_of_ge _ _ hk]
  · simp [rule_alfired, getLsbD_clearAlarmBit_of_ge _ _ hk]

end Sys2Proof.Machine

/-! ## Settling the CRC family (44_crc.md): the division by the polynomial, the CRC register and the sensor frames -/

namespace Sys2Proof

/-- A word with the OP of a command that does not match the command's row has a must-be-zero bit set (30_encoding.md
R86, R88). -/
theorem decode_of_opField_of_not_match {w : Word32} {m : Mnemonic} (hop : opField w = m.opcode)
    (hw : w &&& m.format.mask ≠ m.matchWord) : decode w = .error .mustBeZeroSet := by
  simp only [decode, hop, mnemonicOf_opcode, if_neg hw]

/-- In format N every bit below OP must be zero, so the match is the only word of its OP. -/
theorem decode_of_opField_of_formatN {w : Word32} {m : Mnemonic} (hf : m.format = .N) (hop : opField w = m.opcode)
    (hw : w ≠ m.matchWord) : decode w = .error .mustBeZeroSet := by
  refine decode_of_opField_of_not_match hop fun h => hw ?_
  rw [hf] at h
  exact BitVec.and_allOnes.symm.trans h

end Sys2Proof

namespace Sys2Proof.Machine

open Sys2Proof.Safety

/-! ### The division by the polynomial (R190) -/

/-- The eight bits kept of the 9-bit sum are the shifted byte plus the polynomial without its top term. -/
theorem crcShift_eq_division (c : Byte) :
    crcShift c = if c.getLsbD 7 then ((c.setWidth 9 <<< 1) ^^^ 0x131#9).setWidth 8 else c <<< 1 := by
  have hshift : (c.setWidth 9 <<< 1).setWidth 8 = c <<< 1 := by
    rw [BitVec.setWidth_shiftLeft_of_le (by omega), BitVec.setWidth_setWidth_of_le _ (by omega), BitVec.setWidth_eq]
  have hpoly : (0x131#9).setWidth 8 = Config.crcPoly := rfl
  rw [BitVec.setWidth_xor, hshift, hpoly, crcShift]

/-- Settles O37: one round is one step of the division, and `crcStep` is eight rounds. -/
theorem crcStepDividesByThePolynomial : Obligations.CrcStepDividesByThePolynomial := by
  intro c x
  rw [crcStep_eq, funext crcShift_eq_division]

/-! ### Linearity and the residue (R192) -/

/-- One round as a sum: the shifted byte, and the polynomial as often as a 1 falls out. -/
theorem crcShift_eq_xor (c : Byte) : crcShift c = (c <<< 1) ^^^ (if c.getLsbD 7 then Config.crcPoly else 0) := by
  rw [crcShift]
  split
  · rfl
  · exact BitVec.xor_zero.symm

/-- Shifts add up, and the 1s that fall out of both bytes cancel, as do the polynomials they subtract. -/
theorem crcShift_xor (a b : Byte) : crcShift (a ^^^ b) = crcShift a ^^^ crcShift b := by
  have hpoly : (if (a ^^^ b).getLsbD 7 then Config.crcPoly else 0)
      = (if a.getLsbD 7 then Config.crcPoly else 0) ^^^ (if b.getLsbD 7 then Config.crcPoly else 0) := by
    rw [BitVec.getLsbD_xor]
    cases a.getLsbD 7 <;> cases b.getLsbD 7 <;> rfl
  rw [crcShift_eq_xor, hpoly, BitVec.shiftLeft_xor_distrib, crcShift_eq_xor a, crcShift_eq_xor b]
  ac_rfl

theorem repeat_crcShift_xor (n : Nat) (a b : Byte) :
    Nat.repeat crcShift n (a ^^^ b) = Nat.repeat crcShift n a ^^^ Nat.repeat crcShift n b := by
  induction n with
  | zero => rfl
  | succ n ih => simp only [Nat.repeat, ih, crcShift_xor]

theorem crcStep_xor (c d x y : Byte) : crcStep (c ^^^ d) (x ^^^ y) = crcStep c x ^^^ crcStep d y := by
  have hswap : c ^^^ d ^^^ (x ^^^ y) = (c ^^^ x) ^^^ (d ^^^ y) := by ac_rfl
  rw [crcStep_eq, hswap, repeat_crcShift_xor, ← crcStep_eq, ← crcStep_eq]

/-- Folding is linear in the starting values and the byte lists together. -/
theorem foldl_crcStep_xor {xs ys : List Byte} (h : xs.length = ys.length) (c d : Byte) :
    (List.zipWith (· ^^^ ·) xs ys).foldl crcStep (c ^^^ d) = xs.foldl crcStep c ^^^ ys.foldl crcStep d := by
  induction xs generalizing ys c d with
  | nil =>
    obtain rfl := List.length_eq_zero_iff.mp h.symm
    rfl
  | cons x xs ih =>
    obtain ⟨y, ys, rfl⟩ := List.exists_cons_of_length_eq_add_one h.symm
    simp only [List.zipWith_cons_cons, List.foldl_cons, crcStep_xor, ih (Nat.succ.inj h)]

theorem zipWith_xor_zeros (xs : List Byte) : List.zipWith (· ^^^ ·) xs (List.replicate xs.length 0x00) = xs := by
  induction xs with
  | nil => rfl
  | cons x xs ih =>
    rw [List.length_cons, List.replicate_succ, List.zipWith_cons_cons, ih]
    exact congrArg (· :: xs) BitVec.xor_zero

/-- The initial value is the sum of three of itself, so the CRC of a sum has a third term, the CRC of zeros. -/
theorem crc8_xor {xs ys : List Byte} (h : xs.length = ys.length) :
    crc8 (List.zipWith (· ^^^ ·) xs ys) = crc8 xs ^^^ crc8 ys ^^^ crc8 (List.replicate xs.length 0x00) := by
  have hlen : (List.zipWith (· ^^^ ·) xs ys).length = xs.length := by rw [List.length_zipWith, ← h, Nat.min_self]
  have hinit : Config.crcInit = (Config.crcInit ^^^ Config.crcInit) ^^^ Config.crcInit := rfl
  calc crc8 (List.zipWith (· ^^^ ·) xs ys)
    _ = (List.zipWith (· ^^^ ·) (List.zipWith (· ^^^ ·) xs ys) (List.replicate xs.length 0x00)).foldl crcStep
          ((Config.crcInit ^^^ Config.crcInit) ^^^ Config.crcInit) := by
      rw [← hinit, ← hlen, zipWith_xor_zeros, crc8]
    _ = crc8 xs ^^^ crc8 ys ^^^ crc8 (List.replicate xs.length 0x00) := by
      rw [foldl_crcStep_xor (by rw [hlen, List.length_replicate]), foldl_crcStep_xor h, crc8, crc8, crc8]

/-- A byte folded into an equal running value cancels it, and zero shifts to zero. -/
theorem crcStep_self (c : Byte) : crcStep c c = 0x00 := by
  rw [crcStep_eq, BitVec.xor_self]
  rfl

theorem crc8_append_crc8 (xs : List Byte) : crc8 (xs ++ [crc8 xs]) = 0x00 := by
  rw [crc8_concat, crcStep_self]

/-- Settles O38: the pinned values are computed; the residue and the linearity are laws of the fold. -/
theorem crcPropertiesOfTheSpec : Obligations.CrcPropertiesOfTheSpec := by
  have hvector : crc8 [0xBE, 0xEF] = 0x92 := by decide +kernel
  have hresidue : crc8 ([0xBE, 0xEF] ++ [crc8 [0xBE, 0xEF]]) = 0x00 := crc8_append_crc8 _
  rw [hvector] at hresidue
  exact ⟨⟨hvector, by decide +kernel⟩, crc8_append_crc8, hresidue, by decide +kernel, fun _ _ => crc8_xor⟩

/-! ### The commands that write CRC (R193 to R196) -/

/-- A command that past the prologue writes CRC leaves all else. -/
theorem setCRC_prologue_frame (s : State) (v : Byte) :
    succeeded s (s.prologue.setCRC v) false ∧ sameFlags s (s.prologue.setCRC v) ∧ sameB s (s.prologue.setCRC v)
      ∧ sameV s (s.prologue.setCRC v) ∧ sameW s (s.prologue.setCRC v) ∧ (s.prologue.setCRC v).SN = s.SN
      ∧ noTransaction s (s.prologue.setCRC v) ∧ sameHost s (s.prologue.setCRC v) := by
  simp [succeeded, sameFlags, sameB, sameV, sameW, noTransaction, sameHost]

/-- Settles O39: CRCINIT has the one word of its OP, checks nothing and writes CRC alone. -/
theorem crcinitSetsTheInitialValue : Obligations.CrcinitSetsTheInitialValue :=
  ⟨rfl, fun _ hop hw => decode_of_opField_of_formatN (m := .crcinit) rfl hop hw, fun s =>
    ⟨_, exec_of_not_validationCause id, rfl, setCRC_prologue_frame s Config.crcInit⟩⟩

/-- Settles O40: CRCBYTE checks nothing and writes CRC alone. -/
theorem crcbyteFoldsOneByte : Obligations.CrcbyteFoldsOneByte := fun s br =>
  ⟨wordB_eq_or .crcbyte br, _, exec_of_not_validationCause id, rfl, setCRC_prologue_frame s (crcStep s.CRC (s.getB br))⟩

/-- Settles O41: past its check of the run CRC8 writes CRC alone. -/
theorem crc8ComputesTheCrcOfARun : Obligations.Crc8ComputesTheCrcOfARun := by
  intro s br p
  refine ⟨wordBP_eq_or .crc8 p br, fun hp => rejected_of_validationCause hp, fun hp hrun => ?_⟩
  have hok : ¬validationCause (.crc8 br p) s := not_or.mpr ⟨Nat.not_lt.mpr hp, Nat.not_lt.mpr hrun⟩
  refine ⟨_, exec_of_not_validationCause hok, ?_, setCRC_prologue_frame s _⟩
  simp only [rule, CRC_setCRC, bytesFrom_eq_map_range, getB_prologue]

theorem verify_eq_decide (xs : List Byte) (e : Byte) : verify xs e = decide (crc8 xs = e) :=
  Bool.eq_iff_iff.mpr ((verify_iff xs e).trans decide_eq_true_iff.symm)

/-- Settles O42: past its check of the run and the byte after it CRCVFY writes CRC and FLAG, and raises nothing. -/
theorem crcvfyComparesWithTheNextByte : Obligations.CrcvfyComparesWithTheNextByte := by
  intro s br p
  refine ⟨wordBP_eq_or .crcvfy p br, fun hp => rejected_of_validationCause ?_, fun hp hrun => ?_⟩
  · show br.toNat + p.toNat + 1 > 16
    omega
  · have hok : ¬validationCause (.crcvfy br p) s := Nat.not_lt.mpr hrun
    refine ⟨_, exec_of_not_validationCause hok, ?_, ?_, ?_, ?_, ?_, getB_rule rfl s.prologue,
      fun _ => getV_rule rfl s.prologue, sameW_rule (i := .crcvfy br p) nofun s.prologue,
      SN_rule (i := .crcvfy br p) nofun s.prologue, noTransaction_rule rfl s.prologue, sameHost_rule _ s.prologue⟩
    · simp only [rule, CRC_setFlag, CRC_setCRC, bytesFrom_eq_map_range, getB_prologue]
    · simp only [rule, State.setFlag, ST_setST, Status.flag_setFlag, bytesFrom_eq_map_range, getB_prologue,
        verify_eq_decide]
    · simp [rule]
    · simp [rule]
    · simp [succeeded, rule]

/-! ### The sensor frames (R200 to R205) -/

section Frames

variable (s : State) (br : BIndex)

/-! The second frame of a response stands three bytes on (R200). -/

theorem frameOk_add_three_iff :
    s.frameOk (br + 3) = true ↔ crc8 [s.getB (br + 3), s.getB (br + 4)] = s.getB (br + 5) := by
  rw [frameOk_iff, BitVec.add_assoc, BitVec.add_assoc]
  exact Iff.rfl

theorem frameWord_toNat : (s.frameWord br).toNat = (s.getB br).toNat * 256 + (s.getB (br + 1)).toNat :=
  wordOf_toNat _ _

theorem frameWord_add_three_toNat :
    (s.frameWord (br + 3)).toNat = (s.getB (br + 3)).toNat * 256 + (s.getB (br + 4)).toNat := by
  rw [frameWord_toNat, BitVec.add_assoc]
  rfl

/-! Each word of FRMPAIR is its own frame's, whichever way the command ends (R204). -/

theorem W0_rule_frmpair :
    (rule (.frmpair br) s).W0 = if s.frameOk br then s.frameWord br else s.W0 := by
  have hkeep : (rule (.frmpair br) s).W0 = (s.updatePair br).W0 := acceptedOr_keeps (·.W0) _ rfl rfl
  rw [hkeep, updatePair_eq, W0_setW1, W0_setW0]

theorem W1_rule_frmpair :
    (rule (.frmpair br) s).W1 = if s.frameOk (br + 3) then s.frameWord (br + 3) else s.W1 := by
  have hkeep : (rule (.frmpair br) s).W1 = (s.updatePair br).W1 := acceptedOr_keeps (·.W1) _ rfl rfl
  rw [hkeep, updatePair_eq, W1_setW1]

/-- The serial number is the two halves where both frames pass, and stays otherwise (R205). -/
theorem SN_rule_frmser :
    (rule (.frmser br) s).SN
      = if s.frameOk br = true ∧ s.frameOk (br + 3) = true then serialOf (s.frameWord br) (s.frameWord (br + 3))
        else s.SN := by
  split
  · next h => simp only [rule, h.left, h.right, Bool.and_self, acceptedOr_true, SN_setSN]
  · next h =>
    rw [← Bool.and_eq_true, Bool.not_eq_true] at h
    simp only [rule, h, acceptedOr_false, SN_raise, SN_setFrameValid]

end Frames

/-- How a command on two sensor frames reports their checks `p0` and `p1` in STATUS, FLAG kept (R204, R205). -/
def framesReported (s t : State) (p0 p1 : Prop) [Decidable p0] [Decidable p1] : Prop :=
  t.ST.fv0 = decide p0 ∧ t.ST.fv1 = decide p1 ∧ t.ST.flag = s.ST.flag ∧ (p0 → p1 → succeeded s t false)
    ∧ (¬p0 ∨ ¬p1 → raised t .checksumError)

/-- What FRMPAIR and FRMSER share: past the prologue both checks go to FV0 and FV1, and the error is by their
conjunction. -/
theorem framesReported_acceptedOr {s u body : State} {ok0 ok1 : Bool} {p0 p1 : Prop} [Decidable p0] [Decidable p1]
    (h0 : ok0 = true ↔ p0) (h1 : ok1 = true ↔ p1) (hu : u.ST = s.prologue.ST)
    (hbody : body.ST = (u.setFrameValid ok0 ok1).ST) :
    framesReported s ((u.setFrameValid ok0 ok1).acceptedOr (ok0 && ok1) body) p0 p1 := by
  have hfv0 : ok0 = decide p0 := Bool.eq_iff_iff.mpr (h0.trans decide_eq_true_iff.symm)
  have hfv1 : ok1 = decide p1 := Bool.eq_iff_iff.mpr (h1.trans decide_eq_true_iff.symm)
  refine ⟨?_, ?_, ?_, fun hp0 hp1 => ?_, fun hfail => ?_⟩
  · rw [acceptedOr_keeps (s := u.setFrameValid ok0 ok1) (·.ST.fv0) _ (by simp) (by rw [hbody])]
    simp [hfv0]
  · rw [acceptedOr_keeps (s := u.setFrameValid ok0 ok1) (·.ST.fv1) _ (by simp) (by rw [hbody])]
    simp [hfv1]
  · rw [acceptedOr_keeps (s := u.setFrameValid ok0 ok1) (·.ST.flag) _ (by simp) (by rw [hbody])]
    simp [hu]
  · rw [h0.mpr hp0, h1.mpr hp1] at hbody ⊢
    simp [succeeded, hbody, hu]
  · have hok : (ok0 && ok1) = false := by
      rw [← Bool.not_eq_true, Bool.and_eq_true, h0, h1]
      exact not_and_or.mpr hfail
    rw [hok, acceptedOr_false]
    exact raised_raise (by simp [hu]) _

theorem framesReported_frmpair (s : State) (br : BIndex) :
    framesReported s (rule (.frmpair br) s.prologue) (crc8 [s.getB br, s.getB (br + 1)] = s.getB (br + 2))
      (crc8 [s.getB (br + 3), s.getB (br + 4)] = s.getB (br + 5)) :=
  framesReported_acceptedOr (frameOk_iff s br) (frameOk_add_three_iff s br) (ST_updatePair _ _) rfl

theorem framesReported_frmser (s : State) (br : BIndex) :
    framesReported s (rule (.frmser br) s.prologue) (crc8 [s.getB br, s.getB (br + 1)] = s.getB (br + 2))
      (crc8 [s.getB (br + 3), s.getB (br + 4)] = s.getB (br + 5)) :=
  framesReported_acceptedOr (frameOk_iff s br) (frameOk_add_three_iff s br) rfl rfl

/-- Settles O43: past its base check FRMPAIR writes each word by its own frame's check and STATUS by both. -/
theorem frmpairUpdatesEachPassingWord : Obligations.FrmpairUpdatesEachPassingWord := by
  intro s br
  refine ⟨wordB_eq_or .frmpair br, fun hbr => rejected_of_validationCause hbr, fun hbr => ?_⟩
  have hok : ¬validationCause (.frmpair br) s := Nat.not_lt.mpr hbr
  obtain ⟨hfv0, hfv1, hflag, hpass, hfail⟩ := framesReported_frmpair s br
  refine ⟨_, exec_of_not_validationCause hok, hfv0, hfv1, ?_, ?_, hpass, hfail, hflag, getB_rule rfl s.prologue,
    fun _ => getV_rule rfl s.prologue, SN_rule (i := .frmpair br) nofun s.prologue, CRC_rule rfl s.prologue,
    noTransaction_rule rfl s.prologue, sameHost_rule _ s.prologue⟩
  · rw [W0_rule_frmpair, frameOk_prologue, frameWord_prologue, apply_ite BitVec.toNat, frameWord_toNat, W0_prologue]
    exact if_congr (frameOk_iff s br) rfl rfl
  · rw [W1_rule_frmpair, frameOk_prologue, frameWord_prologue, apply_ite BitVec.toNat, frameWord_add_three_toNat,
      W1_prologue]
    exact if_congr (frameOk_add_three_iff s br) rfl rfl

/-- Settles O44: past its base check FRMSER writes SN where both frames pass, and STATUS by both checks. -/
theorem frmserAssemblesTheSerialNumber : Obligations.FrmserAssemblesTheSerialNumber := by
  intro s br
  refine ⟨wordB_eq_or .frmser br, fun hbr => rejected_of_validationCause hbr, fun hbr => ?_⟩
  have hok : ¬validationCause (.frmser br) s := Nat.not_lt.mpr hbr
  obtain ⟨hfv0, hfv1, hflag, hpass, hfail⟩ := framesReported_frmser s br
  refine ⟨_, exec_of_not_validationCause hok, hfv0, hfv1, fun h0 h1 => ⟨hpass h0 h1, ?_⟩, fun h => ⟨hfail h, ?_⟩, hflag,
    getB_rule rfl s.prologue, fun _ => getV_rule rfl s.prologue, sameW_rule (i := .frmser br) nofun s.prologue,
    CRC_rule rfl s.prologue, noTransaction_rule rfl s.prologue, sameHost_rule _ s.prologue⟩
  · rw [SN_rule_frmser, frameOk_prologue, frameOk_prologue,
      if_pos ⟨(frameOk_iff s br).mpr h0, (frameOk_add_three_iff s br).mpr h1⟩, serialOf_toNat, frameWord_prologue,
      frameWord_prologue, frameWord_toNat, frameWord_add_three_toNat]
    omega
  · have hnot : ¬(s.frameOk br = true ∧ s.frameOk (br + 3) = true) := by
      rw [frameOk_iff, frameOk_add_three_iff]
      exact not_and_or.mpr h
    rw [SN_rule_frmser, frameOk_prologue, frameOk_prologue, if_neg hnot, SN_prologue]

end Sys2Proof.Machine

/-! ## Settling the system commands (45_system.md): NOP and CLRST, which write STATUS alone -/

namespace Sys2Proof.Machine

open Sys2Proof.Safety

theorem sameButStatus_setST (s : State) (v : Status) : sameButStatus s (s.setST v) := by
  simp [sameButStatus, sameB, sameV, sameWords, sameW, noTransaction, sameHost]

/-- Settles O12: NOP has the one word of its OP, checks nothing and does no more than the prologue. -/
theorem nopRunsThePrologueOnly : Obligations.NopRunsThePrologueOnly := by
  refine ⟨rfl, fun _ hop hw => decode_of_opField_of_formatN (m := .nop) rfl hop hw, fun s => ?_⟩
  refine ⟨_, exec_of_not_validationCause id, ?_, ?_, sameButStatus_setST s _⟩
  · simp [succeeded, rule]
  · simp [sameFlags, rule]

/-- Settles O13: CLRST has the one word of its OP, checks nothing and clears STK past the prologue. -/
theorem clrstClearsTheStickyBit : Obligations.ClrstClearsTheStickyBit := by
  refine ⟨rfl, fun _ hop hw => decode_of_opField_of_formatN (m := .clrst) rfl hop hw, fun s => ?_⟩
  refine ⟨_, exec_of_not_validationCause id, ?_, ?_, ?_, ?_, sameButStatus_setST s (s.prologue.ST.setStk false)⟩
  · simp [rule]
  · simp [rule]
  · simp [rule]
  · simp [sameFlags, rule]

end Sys2Proof.Machine

/-! ## Settling the exceptions family (60_exceptions.md): each error has its cause, and leaves the registers as they were -/

namespace Sys2Proof.Machine

open Sys2Proof.Safety

/-! ### The step always answers (R238, R239, R248) -/

/-- Settles O11: an empty port is the first case of the step. -/
theorem idleStepChangesNothing : Obligations.IdleStepChangesNothing := by
  intro s hp
  simp only [step, serveNext, hp]

/-- Settles O10: of the six things a step can serve only a decoded command is more than a next state by itself, and it is
its check and its rule. -/
theorem everyStepAnswersANextState : Obligations.EveryStepAnswersANextState := by
  intro s
  rcases step_cases s with ⟨-, hs⟩ | ⟨_, _, i, -, -, hs⟩ | ⟨_, _, _, -, -, hs⟩ | ⟨_, _, -, hs⟩ | ⟨_, _, _, -, hs⟩
    | ⟨_, -, hs⟩
  case inr.inl => exact ⟨_, hs.trans (exec_eq i _)⟩
  all_goals exact ⟨_, hs⟩

/-! ### The codes of the errors (R230) -/

theorem code_ne_zero (e : ErrorClass) : e.code ≠ 0 := by cases e <;> decide

theorem code_injective : Function.Injective ErrorClass.code := by
  intro e e' h
  revert h
  cases e <;> cases e' <;> decide

/-! ### The causes of an error of a command (R231 to R234) -/

/-- Why a command raises the error; a command raises no IllegalCommand. -/
def errorCause (e : ErrorClass) (i : Instr) (s : State) : Prop :=
  match e with
  | .busError => isFramer i.mnemonic = true ∧ ¬validationCause i s ∧ s.nextDraw = .busErr
  | .checksumError => ∃ br : BIndex, (i = .frmpair br ∨ i = .frmser br) ∧ br.toNat ≤ 10 ∧ frameFails br s
  | .validationError => validationCause i s
  | .illegalCommand => False

section Causes

variable {i : Instr} {s t : State}

/-- The rule of a framer command is one transaction (41_framer.md R110). -/
theorem rule_eq_transact_of_isFramer (h : isFramer i.mnemonic = true) (s : State) :
    ∃ sa wr rlen, rule i s = s.transact sa wr rlen := by
  cases i
  case xwr | xrd | xcmd | xrdraw => exact ⟨_, _, _, rfl⟩
  all_goals exact Bool.noConfusion h

theorem busFailed_of_errorCause (h : errorCause .busError i s) : ∃ e, busFailed i s e := by
  obtain ⟨hf, hv, hd⟩ := h
  obtain ⟨sa, wr, rlen, hr⟩ := rule_eq_transact_of_isFramer hf s.prologue
  exact ⟨_, busFailed_of_exec_eq_transact (hr ▸ exec_of_not_validationCause hv) hd⟩

/-- A transaction that raises an error has had a bus error for an answer (41_framer.md R112). -/
theorem nextDraw_of_err_transact {sa : SlaveAddr} {wr : Option (List Byte)} {rlen : Nat} (h : s.ST.err = 0)
    (herr : (s.transact sa wr rlen).ST.err ≠ 0) : s.nextDraw = .busErr := by
  cases hd : s.nextDraw with
  | busErr => rfl
  | ok bytes => exact absurd (by simp [transact_of_ok hd, h]) herr

/-- Past their base check both commands on sensor frames report the two checks (44_crc.md R204, R205). -/
theorem framesReported_of_exec {br : BIndex} (hi : i = .frmpair br ∨ i = .frmser br) (hbr : br.toNat ≤ 10)
    (h : exec i s = .next t) :
    framesReported s t (crc8 [s.getB br, s.getB (br + 1)] = s.getB (br + 2))
      (crc8 [s.getB (br + 3), s.getB (br + 4)] = s.getB (br + 5)) := by
  have hv : ¬validationCause i s := by rcases hi with rfl | rfl <;> exact Nat.not_lt.mpr hbr
  obtain rfl := Host.Outcome.next.inj ((exec_of_not_validationCause hv).symm.trans h)
  rcases hi with rfl | rfl
  · exact framesReported_frmpair s br
  · exact framesReported_frmser s br

theorem frameFails_of_framesReported {br : BIndex}
    (h : framesReported s t (crc8 [s.getB br, s.getB (br + 1)] = s.getB (br + 2))
      (crc8 [s.getB (br + 3), s.getB (br + 4)] = s.getB (br + 5))) (herr : t.ST.err ≠ 0) : frameFails br s := by
  obtain ⟨-, -, -, hpass, -⟩ := h
  exact not_and_or.mp fun ⟨h0, h1⟩ => herr (hpass h0 h1).left

/-- Where there is a cause, its error is the one raised. -/
theorem err_of_errorCause {e : ErrorClass} (hc : errorCause e i s) (h : exec i s = .next t) : t.ST.err = e.code := by
  cases e with
  | busError =>
    obtain ⟨_, t', ht', ⟨herr, -⟩, -⟩ := busFailed_of_errorCause hc
    rwa [← Host.Outcome.next.inj (h.symm.trans ht')] at herr
  | checksumError =>
    obtain ⟨br, hi, hbr, hfails⟩ := hc
    obtain ⟨-, -, -, -, hraised⟩ := framesReported_of_exec hi hbr h
    exact (hraised hfails).left
  | validationError =>
    obtain ⟨t', ht', ⟨herr, -⟩, -⟩ := rejected_of_validationCause hc
    rwa [← Host.Outcome.next.inj (h.symm.trans ht')] at herr
  | illegalCommand => exact hc.elim

/-- A command raises no error without a cause. -/
theorem exists_errorCause (h : exec i s = .next t) (herr : t.ST.err ≠ 0) : ∃ e, errorCause e i s := by
  rcases exec_cases h with ⟨hv, -⟩ | ⟨hv, rfl⟩
  · exact ⟨.validationError, hv⟩
  cases i
  case xwr | xrd | xcmd | xrdraw =>
    exact ⟨.busError, rfl, hv, nextDraw_of_err_transact (s := s.prologue) (by simp) herr⟩
  case frmpair br =>
    exact ⟨.checksumError, br, .inl rfl, Nat.not_lt.mp hv, frameFails_of_framesReported (framesReported_frmpair s br) herr⟩
  case frmser br =>
    exact ⟨.checksumError, br, .inr rfl, Nat.not_lt.mp hv, frameFails_of_framesReported (framesReported_frmser s br) herr⟩
  all_goals exact absurd (by simp [rule]) herr

/-- A command leaves the code of an error exactly where it has the error's cause. -/
theorem err_exec_iff (h : exec i s = .next t) (e : ErrorClass) : t.ST.err = e.code ↔ errorCause e i s := by
  refine ⟨fun herr => ?_, fun hc => err_of_errorCause hc h⟩
  obtain ⟨e', hc⟩ := exists_errorCause h (herr ▸ code_ne_zero e)
  rwa [code_injective (herr.symm.trans (err_of_errorCause hc h))]

end Causes

/-- Settles O51: the code of ValidationError by its cause. -/
theorem validationErrorExactlyByItsCauses : Obligations.ValidationErrorExactlyByItsCauses :=
  fun _ _ _ h => err_exec_iff h .validationError

/-- Settles O52: the code of BusError by its cause. -/
theorem busErrorExactlyByAFailedTransfer : Obligations.BusErrorExactlyByAFailedTransfer :=
  fun _ _ _ h => err_exec_iff h .busError

/-- Settles O53: the code of ChecksumError by its cause. -/
theorem checksumErrorExactlyByAFailedFrame : Obligations.ChecksumErrorExactlyByAFailedFrame :=
  fun _ _ _ h => err_exec_iff h .checksumError

/-! ### Words that are no command (R234) -/

/-- A word that matches a row is a command (30_encoding.md R88). -/
theorem exists_decode_of_rowMatches {w : Word32} {r : Mnemonic × Word32 × Word32} (hr : r ∈ tableRows)
    (h : rowMatches w r) : ∃ i, decode w = .ok i := by
  rw [(mem_tableRows_iff r).mp hr] at h
  obtain ⟨i, hd, -⟩ := (decodes_to_mnemonic_iff w r.1).mpr h
  exact ⟨i, hd⟩

/-- A word is no command exactly where it matches no row. -/
theorem decode_error_iff_no_row (w : Word32) : (∃ e, decode w = .error e) ↔ ∀ r ∈ tableRows, ¬rowMatches w r := by
  refine ⟨fun ⟨e, hd⟩ r hr hmatch => ?_, decode_error_of_no_row⟩
  obtain ⟨i, hok⟩ := exists_decode_of_rowMatches hr hmatch
  cases hd.symm.trans hok

/-- Settles O9: a word that is no command is issued as IllegalCommand, and no command has a cause for that error. -/
theorem illegalCommandExactlyForWordsOfNoRow : Obligations.IllegalCommandExactlyForWordsOfNoRow := by
  intro s t w rest hp h
  have hissue : issue w { s with port := rest } = .next t := (step_eq_serve hp).symm.trans h
  rw [← decode_error_iff_no_row]
  cases hd : decode w with
  | ok i =>
    rw [issue_of_decode_ok hd] at hissue
    exact iff_of_false (err_exec_iff hissue .illegalCommand).mp nofun
  | error e =>
    rw [issue_of_decode_error hd] at hissue
    obtain rfl := Host.Outcome.next.inj hissue
    exact iff_of_true (raised_illegal _).left ⟨e, rfl⟩

/-! ### What an error leaves unchanged (R236) -/

/-- Every register is as before, and of STATUS the flags. -/
def registersKept (s t : State) : Prop := sameB s t ∧ sameV s t ∧ sameWords s t ∧ sameFlags s t

section Precise

variable {i : Instr} {s t : State}

/-- Every error but ChecksumError keeps all registers. -/
theorem registersKept_of_errorCause {e : ErrorClass} (hc : errorCause e i s) (he : e ≠ .checksumError)
    (h : exec i s = .next t) : registersKept s t := by
  cases e with
  | busError =>
    obtain ⟨_, t', ht', -, hflags, hB, hV, hwords, -⟩ := busFailed_of_errorCause hc
    obtain rfl := Host.Outcome.next.inj (h.symm.trans ht')
    exact ⟨hB, hV, hwords, hflags⟩
  | checksumError => exact absurd rfl he
  | validationError =>
    obtain ⟨t', ht', -, hflags, hB, hV, hwords, -⟩ := rejected_of_validationCause hc
    obtain rfl := Host.Outcome.next.inj (h.symm.trans ht')
    exact ⟨hB, hV, hwords, hflags⟩
  | illegalCommand => exact hc.elim

/-- The conclusion of R236 for one command: what it keeps when it raises an error. -/
def errorIsPrecise (i : Instr) (s t : State) : Prop :=
  sameB s t ∧ sameV s t ∧ t.SN = s.SN ∧ t.CRC = s.CRC ∧ t.ST.flag = s.ST.flag
    ∧ (i.mnemonic ≠ .frmpair → sameW s t)
    ∧ (i.mnemonic = .frmpair → validationCause i s → sameW s t)
    ∧ (i.mnemonic = .frmpair → (t.ST.fv0 = false → t.W0 = s.W0) ∧ (t.ST.fv1 = false → t.W1 = s.W1))
    ∧ (writesFv i.mnemonic = false → t.ST.fv0 = s.ST.fv0 ∧ t.ST.fv1 = s.ST.fv1)

theorem errorIsPrecise_of_registersKept (h : registersKept s t) : errorIsPrecise i s t := by
  obtain ⟨hB, hV, ⟨hW, hSN, hCRC⟩, hflag, hfv⟩ := h
  exact ⟨hB, hV, hSN, hCRC, hflag, fun _ => hW, fun _ _ => hW, fun _ => ⟨fun _ => hW.left, fun _ => hW.right⟩, fun _ => hfv⟩

/-- A W that is written by its frame's check alone is as before where the check's FV bit is 0 (44_crc.md R204). -/
theorem word_kept_of_fv_false {p : Prop} [Decidable p] {fv : Bool} {w w' : Word16} {n : Nat} (hfv : fv = decide p)
    (hw : w'.toNat = if p then n else w.toNat) (h : fv = false) : w' = w := by
  rw [if_neg (of_decide_eq_false (hfv.symm.trans h))] at hw
  exact BitVec.eq_of_toNat_eq hw

variable {br : BIndex}

/-- FRMPAIR past its base check keeps each W whose frame fails (R204). -/
theorem errorIsPrecise_frmpair (hbr : br.toNat ≤ 10) (h : exec (.frmpair br) s = .next t) :
    errorIsPrecise (.frmpair br) s t := by
  obtain ⟨-, -, hends⟩ := frmpairUpdatesEachPassingWord s br
  obtain ⟨t', ht', hfv0, hfv1, hW0, hW1, -, -, hflag, hB, hV, hSN, hCRC, -⟩ := hends hbr
  obtain rfl := Host.Outcome.next.inj (h.symm.trans ht')
  exact ⟨hB, hV, hSN, hCRC, hflag, fun hm => absurd rfl hm, fun _ hv => absurd hv (Nat.not_lt.mpr hbr),
    fun _ => ⟨word_kept_of_fv_false hfv0 hW0, word_kept_of_fv_false hfv1 hW1⟩, nofun⟩

/-- FRMSER keeps SN where a frame fails (R205). -/
theorem errorIsPrecise_frmser (hbr : br.toNat ≤ 10) (hfails : frameFails br s) (h : exec (.frmser br) s = .next t) :
    errorIsPrecise (.frmser br) s t := by
  obtain ⟨-, -, hends⟩ := frmserAssemblesTheSerialNumber s br
  obtain ⟨t', ht', -, -, -, hfail, hflag, hB, hV, hW, hCRC, -⟩ := hends hbr
  obtain rfl := Host.Outcome.next.inj (h.symm.trans ht')
  obtain ⟨-, hSN⟩ := hfail hfails
  exact ⟨hB, hV, hSN, hCRC, hflag, fun _ => hW, nofun, nofun, nofun⟩

end Precise

/-- Settles O50: by the error's cause; only ChecksumError comes after writes, those of FRMPAIR and FRMSER. -/
theorem errorsArePrecise : Obligations.ErrorsArePrecise := by
  intro i s t h herr
  change errorIsPrecise i s t
  obtain ⟨e, hc⟩ := exists_errorCause h herr
  by_cases he : e = .checksumError
  · subst he
    obtain ⟨br, hi, hbr, hfails⟩ := hc
    rcases hi with rfl | rfl
    · exact errorIsPrecise_frmpair hbr h
    · exact errorIsPrecise_frmser hbr hfails h
  · exact errorIsPrecise_of_registersKept (registersKept_of_errorCause hc he h)

end Sys2Proof.Machine

/-! ## Settling the reset family (70_reset_and_hazards.md): the reset values, and what a reset does not reach -/

namespace Sys2Proof.Machine

open Sys2Proof.Safety

/-! ### The reset values (R261) -/

@[simp] theorem getB_reset (j : BIndex) : State.reset.getB j = 0x00 := Vector.getElem_replicate j.isLt

@[simp] theorem getV_reset (j : VIndex) : State.reset.getV j = 0x00 := Vector.getElem_replicate j.isLt

/-- Settles O46: the reset STATUS is legal, and no event is recorded. -/
theorem resetStatusAndEventsLegal : Obligations.ResetStatusAndEventsLegal :=
  ⟨statusLegal_reset, fun _ he => absurd he List.not_mem_nil⟩

/-! ### The step that serves a reset (R260 to R263) -/

/-- The block is reset after the operation is taken from the port, so what is left of the port is kept. -/
theorem step_eq_resetBlock {s : State} {rest : List HostOp} (h : s.port = .reset :: rest) :
    step s = .next (State.resetBlock { s with port := rest }) :=
  step_eq_serve h

/-- The reset V registers are no WallClockTime: weekday 0 is out of range (R158, R261). -/
theorem dateOut_resetBlock (s : State) : dateOut s.resetBlock := by
  have hweekday : (s.resetBlock.getV 3).toNat < 1 := by simp
  exact .inl hweekday

theorem rejected_timeenc_resetBlock (s : State) (br : BIndex) :
    rejected (.timeenc br) s.resetBlock .validationError :=
  rejected_of_validationCause (.inr (.inr (dateOut_resetBlock s)))

/-- Settles O58: the step answers the reset block, whose weekday TIMEENC refuses. -/
theorem resetSetsEveryRegister : Obligations.ResetSetsEveryRegister := by
  intro s rest hp
  have hB (j : BIndex) : (State.resetBlock { s with port := rest }).getB j = 0x00 := by simp
  have hV (j : VIndex) : (State.resetBlock { s with port := rest }).getV j = 0x00 := by simp
  exact ⟨_, step_eq_resetBlock hp, hB, hV, rfl, rfl, rfl, rfl, rfl, rfl, rejected_timeenc_resetBlock _⟩

/-- Settles O59: the answered state is the reset block, which keeps the four fields outside the block. -/
theorem resetKeepsWhatIsOutsideTheBlock : Obligations.ResetKeepsWhatIsOutsideTheBlock := by
  intro s t rest hp h
  obtain rfl := Host.Outcome.next.inj ((step_eq_resetBlock hp).symm.trans h)
  exact ⟨port_resetBlock _, draws_resetBlock _, drawCount_resetBlock _, hostReads_resetBlock _⟩

end Sys2Proof.Machine

/-! ## Settling the words of the vectors (95_test_vectors.md section 2) -/

namespace Sys2Proof

/-- A word whose OP is no command's has an unassigned opcode (30_encoding.md R86). -/
theorem decode_of_opField_unassigned {w : Word32} (h : ∀ m : Mnemonic, m.opcode ≠ opField w) :
    decode w = .error .unassignedOpcode := by
  have hnone : mnemonicOf (opField w) = none := List.find?_eq_none.mpr fun m _ hm => h m (eq_of_beq hm)
  simp only [decode, hnone]

/-- OP 0x02 lies between the system commands and the framer commands, and no command has it (30_encoding.md R85). -/
theorem opcode_ne_two (m : Mnemonic) : m.opcode ≠ 0x02 := by
  cases m <;> decide

/-- Settles O5: each word of a command is the encoder's word for it, which decodes to it; OP 0x02 is no command's; and
0x20000010 has the OP of BCDDEC with bit 4 set, which the format of BCDDEC requires to be zero. -/
theorem specWordsDecode : Obligations.SpecWordsDecode := by
  refine ⟨?xwr, ?xcmd, ?bcddec, ?al1enc, ?crcvfy, ?unassigned, ?mustBeZero⟩
  case xwr => exact decodeReadsEncodedInstruction (.xwr 0x68 0x00 7)
  case xcmd => exact decodeReadsEncodedInstruction (.xcmd 0x44 0x2400)
  case bcddec => exact decodeReadsEncodedInstruction (.bcddec 7 3)
  case al1enc => exact decodeReadsEncodedInstruction (.al1enc 0 0x0F)
  case crcvfy => exact decodeReadsEncodedInstruction (.crcvfy 13 2)
  case unassigned => exact decode_of_opField_unassigned opcode_ne_two
  case mustBeZero => exact decode_of_opField_of_not_match (m := .bcddec) rfl (by decide)

end Sys2Proof
